-- ==== Sys2Proof/Word.lean ====
section
/-! DEFINITION. The fixed widths of 00_scope.md R10: names for the bit vectors the spec's values are held in.
Nothing here depends on a build. -/

namespace Sys2Proof

/-- A byte: 8 bits (R12). -/
abbrev Byte := BitVec 8

/-- A host data word: 32 bits (R10, R83). -/
abbrev Word := BitVec 32

/-- A 16-bit value: the CRC and the inbound wire fields (R10). -/
abbrev Half := BitVec 16

/-- A public destination or source id: 17 bits, values 0..65536 (R10, R15). -/
abbrev PublicId := BitVec 17

/-- A level code: 3 bits (R10, R43). -/
abbrev Level := BitVec 3

/-- A byte offset in the register window: 8 bits (R10, R80). -/
abbrev Offset := BitVec 8

/-- The 41-bit access word: W in bit 40, OFF in bits 39:32, DATA in bits 31:0 (R101). -/
abbrev AccessWord := BitVec 41

end Sys2Proof
end

