-- ==== Sys2Proof/Config.lean ====
section
/-! DEFINITION. The build parameters of 00_scope.md R8: the record `Build`, the ranges R8 gives, and the build with R8's
defaults. The parameters R8 leaves OPEN (R11: a model must not assume values for them) are opaque constants with no body. -/

namespace Sys2Proof

/-- Which dump entry decoder a build has (R166).
DESIGN CHOICE (log entry 3), safe: a build names its decoder by a constructor, because the state is plain data. -/
inductive DumpDecoder
  /-- R166's default: entry k is destination k + 1, its source BE16(e1, e2) + 1. -/
  | standard
  /-- Any other total function: `Config.dumpEntryDecode`, of which nothing is known. -/
  | other
  deriving DecidableEq, Repr

/-- The build parameters of R8. TAG[0] and TAG[1] are fixed (0x4E, 0x4B), so only TAG[2] is a parameter. -/
structure Build where
  /-- NUM_LEVELS: number of matrix rows. -/
  numLevels : Nat
  /-- NUM_OUTPUTS: number of destinations, public ids 1..NUM_OUTPUTS. -/
  numOutputs : Nat
  /-- NUM_INPUTS: number of sources, public ids 1..NUM_INPUTS. -/
  numInputs : Nat
  /-- RX_MAX: receive buffer capacity in bytes. -/
  rxMax : Nat
  /-- TX_MAX: transmit buffer capacity in bytes. -/
  txMax : Nat
  /-- DUMP_LEVEL: the level code a full-table dump writes. -/
  dumpLevel : Level
  /-- TAG[2]: the third tag byte, OPEN. -/
  tag2 : Byte
  /-- TX_HDR[0..5]: the header of outbound frames, OPEN. -/
  txHdr : Vector Byte 6
  /-- CMD_SET[0..1]: the command-type byte pair, OPEN. -/
  cmdSet : Vector Byte 2
  /-- INIT_FRAME[0..22]: the initialization frame, OPEN (R108). -/
  initFrame : Vector Byte 23
  /-- dumpEntryDecode: the decoder of one 3-byte table entry (R166). -/
  dumpDecoder : DumpDecoder
  deriving DecidableEq, Repr

/-- The tag TAG[0..2]: 0x4E, 0x4B and the build's third byte (R8, D28). -/
def Build.tag (b : Build) : List Byte := [0x4E#8, 0x4B#8, b.tag2]

/-- The ranges R8 gives the parameters. -/
abbrev Build.wf (b : Build) : Prop :=
  (1 ≤ b.numLevels ∧ b.numLevels ≤ 8) ∧
  (1 ≤ b.numOutputs ∧ b.numOutputs ≤ 65536) ∧
  (1 ≤ b.numInputs ∧ b.numInputs ≤ 65536) ∧
  (max 20 (18 + 3 * b.numOutputs) ≤ b.rxMax ∧ b.rxMax ≤ 4194304) ∧
  (24 ≤ b.txMax ∧ b.txMax ≤ 4194304) ∧
  b.dumpLevel.toNat < b.numLevels

namespace Config

/-- TAG[2] of the build the machine resets into: OPEN in R8, so nothing is known of it (log entry 2). -/
opaque tag2 : Byte

/-- Byte i of TX_HDR of the build the machine resets into: OPEN in R8 (log entry 2). -/
opaque txHdr : Nat → Byte

/-- Byte i of CMD_SET of the build the machine resets into: OPEN in R8 (log entry 2). -/
opaque cmdSet : Nat → Byte

/-- Byte i of INIT_FRAME of the build the machine resets into: OPEN in R8 and R108 (log entry 2). -/
opaque initFrame : Nat → Byte

/-- The dump entry decoder of a build that does not use R166's default: a total function from (k, e0, e1, e2) to a pair
(d, s) of 17-bit numbers, of which nothing is known (R166, log entry 3). -/
opaque dumpEntryDecode : Nat → Byte → Byte → Byte → PublicId × PublicId

/-- The build with R8's default for every parameter that has one, and the opaque constants for those R8 leaves OPEN. -/
def defaultBuild : Build where
  numLevels := 8
  numOutputs := 255
  numInputs := 255
  rxMax := 1024
  txMax := 64
  dumpLevel := 0#3
  tag2 := tag2
  txHdr := #v[txHdr 0, txHdr 1, txHdr 2, txHdr 3, txHdr 4, txHdr 5]
  cmdSet := #v[cmdSet 0, cmdSet 1]
  initFrame := #v[initFrame 0, initFrame 1, initFrame 2, initFrame 3, initFrame 4, initFrame 5, initFrame 6, initFrame 7,
    initFrame 8, initFrame 9, initFrame 10, initFrame 11, initFrame 12, initFrame 13, initFrame 14, initFrame 15,
    initFrame 16, initFrame 17, initFrame 18, initFrame 19, initFrame 20, initFrame 21, initFrame 22]
  dumpDecoder := .standard

end Config

end Sys2Proof
end

