-- ==== Sys2Proof/Syntax.lean ====
section
/-! DEFINITION. What the host can write down: the registers of the window, the commands, the steps it takes on the
block, the host assembly lines of 30_encoding.md R113 and R114, and `Instr`, one constructor for each row of
spec/opcode_table.json. -/

namespace Sys2Proof

/-- The registers of the host window, in the order of the register map (R33). -/
inductive Reg
  | ctrl | status | cmd | argLevel | argDest | argSrc | result | tbusAddr | rxData | rxCount
  | txData | txCount | crcValue | crcData | crcSwap | lastEvent | cfgLevels | cfgOutputs | cfgInputs | cfgRxmax | cfgTxmax
  deriving DecidableEq, Repr

/-- The ten commands of R110, by mnemonic. -/
inductive Cmd
  | nop | rxCommit | rxClear | txClear | setXp | mxGet | mxSet | mxClear | crcInit | linkDown
  deriving DecidableEq, Repr

/-- One step of the host agent (R14, R30, R370): an access of `n` bytes at an offset, or reset.
Accesses of any size and any offset can be issued; R86 says which are bus errors. -/
inductive HostStep
  /-- `MemRead(off, n)`. -/
  | memRead (off : Offset) (n : Nat)
  /-- `MemWrite(off, n, v)`. -/
  | memWrite (off : Offset) (n : Nat) (v : Word)
  /-- The reset input asserted and released (R370). -/
  | rst
  deriving DecidableEq, Repr

/-- One line of the host assembly syntax (R113) or a pseudo-instruction (R114). -/
inductive HostLine
  /-- `rd NAME`. -/
  | rd (r : Reg)
  /-- `wr NAME, v`. -/
  | wr (r : Reg) (v : Word)
  /-- `cmd MNEMONIC`. -/
  | cmd (c : Cmd)
  /-- `push [b0, ..., bn]`. -/
  | push (bs : List Byte)
  /-- `frame [b0, ..., bn]`. -/
  | frame (bs : List Byte)
  /-- `pop n`. -/
  | pop (n : Nat)
  /-- `crcbytes [b0, ..., bn]`. -/
  | crcbytes (bs : List Byte)
  /-- `setxp c, d, s`. -/
  | setxp (c d s : Word)
  /-- `mxget c, d`. -/
  | mxget (c d : Word)
  /-- `mxset c, d, s`. -/
  | mxset (c d s : Word)
  deriving DecidableEq, Repr

/-- The instructions: one constructor for each row of spec/opcode_table.json (R101, R290). -/
inductive Instr
  /-- NOP, `wr CMD` with its opcode: does nothing (R298). -/
  | nop
  /-- RX_COMMIT, `wr CMD` with its opcode: decodes the frame in RX (R150). -/
  | rxCommit
  /-- RX_CLEAR, `wr CMD` with its opcode: empties RX (R299). -/
  | rxClear
  /-- TX_CLEAR, `wr CMD` with its opcode: empties TX (R300). -/
  | txClear
  /-- SET_XP, `wr CMD` with its opcode: encodes a set-crosspoint frame into TX (R201). -/
  | setXp
  /-- MX_GET, `wr CMD` with its opcode: reads a matrix cell into RESULT (R261). -/
  | mxGet
  /-- MX_SET, `wr CMD` with its opcode: writes a matrix cell (R262). -/
  | mxSet
  /-- MX_CLEAR, `wr CMD` with its opcode: clears the matrix (R263). -/
  | mxClear
  /-- CRC_INIT, `wr CMD` with its opcode: sets CRC to 0xFFFF (R233). -/
  | crcInit
  /-- LINK_DOWN, `wr CMD` with its opcode: clears HS_DONE and RX (R303). -/
  | linkDown
  /-- CMD_ILLEGAL: a write of CMD that is none of the ten commands; `v` is the written value (R111, R306). -/
  | cmdIllegal (v : Word)
  /-- RD_CTRL: a read of CTRL (R291). -/
  | rdCtrl
  /-- RD_STATUS: a read of STATUS (R293). -/
  | rdStatus
  /-- RD_CMD: a read of CMD (R321). -/
  | rdCmd
  /-- RD_ARG_LEVEL: a read of ARG_LEVEL (R308). -/
  | rdArgLevel
  /-- RD_ARG_DEST: a read of ARG_DEST (R310). -/
  | rdArgDest
  /-- RD_ARG_SRC: a read of ARG_SRC (R312). -/
  | rdArgSrc
  /-- RD_RESULT: a read of RESULT (R305). -/
  | rdResult
  /-- RD_TBUS_ADDR: a read of TBUS_ADDR (R314). -/
  | rdTbusAddr
  /-- RD_RX_DATA: a read of RX_DATA (R321). -/
  | rdRxData
  /-- RD_RX_COUNT: a read of RX_COUNT (R301). -/
  | rdRxCount
  /-- RD_TX_DATA: a read of TX_DATA (R297). -/
  | rdTxData
  /-- RD_TX_COUNT: a read of TX_COUNT (R302). -/
  | rdTxCount
  /-- RD_CRC_VALUE: a read of CRC_VALUE (R241). -/
  | rdCrcValue
  /-- RD_CRC_DATA: a read of CRC_DATA (R321). -/
  | rdCrcData
  /-- RD_CRC_SWAP: a read of CRC_SWAP (R236). -/
  | rdCrcSwap
  /-- RD_LAST_EVENT: a read of LAST_EVENT (R304). -/
  | rdLastEvent
  /-- RD_CFG_LEVELS: a read of CFG_LEVELS (R315). -/
  | rdCfgLevels
  /-- RD_CFG_OUTPUTS: a read of CFG_OUTPUTS (R316). -/
  | rdCfgOutputs
  /-- RD_CFG_INPUTS: a read of CFG_INPUTS (R317). -/
  | rdCfgInputs
  /-- RD_CFG_RXMAX: a read of CFG_RXMAX (R318). -/
  | rdCfgRxmax
  /-- RD_CFG_TXMAX: a read of CFG_TXMAX (R319). -/
  | rdCfgTxmax
  /-- WR_CTRL: a write of the value `v` to CTRL (R292). -/
  | wrCtrl (v : Word)
  /-- WR_STATUS: a write of the value `v` to STATUS (R294). -/
  | wrStatus (v : Word)
  /-- WR_ARG_LEVEL: a write of the value `v` to ARG_LEVEL (R307). -/
  | wrArgLevel (v : Word)
  /-- WR_ARG_DEST: a write of the value `v` to ARG_DEST (R309). -/
  | wrArgDest (v : Word)
  /-- WR_ARG_SRC: a write of the value `v` to ARG_SRC (R311). -/
  | wrArgSrc (v : Word)
  /-- WR_RESULT: a write of the value `v` to RESULT (ignored) (R320). -/
  | wrResult (v : Word)
  /-- WR_TBUS_ADDR: a write of the value `v` to TBUS_ADDR (R313). -/
  | wrTbusAddr (v : Word)
  /-- WR_RX_DATA: a write of the value `v` to RX_DATA (R296). -/
  | wrRxData (v : Word)
  /-- WR_RX_COUNT: a write of the value `v` to RX_COUNT (ignored) (R320). -/
  | wrRxCount (v : Word)
  /-- WR_TX_DATA: a write of the value `v` to TX_DATA (ignored) (R320). -/
  | wrTxData (v : Word)
  /-- WR_TX_COUNT: a write of the value `v` to TX_COUNT (ignored) (R320). -/
  | wrTxCount (v : Word)
  /-- WR_CRC_VALUE: a write of the value `v` to CRC_VALUE (R235). -/
  | wrCrcValue (v : Word)
  /-- WR_CRC_DATA: a write of the value `v` to CRC_DATA (R234). -/
  | wrCrcData (v : Word)
  /-- WR_CRC_SWAP: a write of the value `v` to CRC_SWAP (ignored) (R320). -/
  | wrCrcSwap (v : Word)
  /-- WR_LAST_EVENT: a write of the value `v` to LAST_EVENT (ignored) (R320). -/
  | wrLastEvent (v : Word)
  /-- WR_CFG_LEVELS: a write of the value `v` to CFG_LEVELS (ignored) (R320). -/
  | wrCfgLevels (v : Word)
  /-- WR_CFG_OUTPUTS: a write of the value `v` to CFG_OUTPUTS (ignored) (R320). -/
  | wrCfgOutputs (v : Word)
  /-- WR_CFG_INPUTS: a write of the value `v` to CFG_INPUTS (ignored) (R320). -/
  | wrCfgInputs (v : Word)
  /-- WR_CFG_RXMAX: a write of the value `v` to CFG_RXMAX (ignored) (R320). -/
  | wrCfgRxmax (v : Word)
  /-- WR_CFG_TXMAX: a write of the value `v` to CFG_TXMAX (ignored) (R320). -/
  | wrCfgTxmax (v : Word)
  /-- UNMAPPED_54: an access to the unmapped offsets 0x54; `w` is W, `off` OFF and `v` DATA (R86, R101). -/
  | unmapped54 (w : Bool) (off : Offset) (v : Word)
  /-- UNMAPPED_58: an access to the unmapped offsets 0x58 and 0x5C; `w` is W, `off` OFF and `v` DATA (R86, R101). -/
  | unmapped58 (w : Bool) (off : Offset) (v : Word)
  /-- UNMAPPED_60: an access to the unmapped offsets 0x60..0x7C; `w` is W, `off` OFF and `v` DATA (R86, R101). -/
  | unmapped60 (w : Bool) (off : Offset) (v : Word)
  /-- UNMAPPED_80: an access to the unmapped offsets 0x80..0xFC; `w` is W, `off` OFF and `v` DATA (R86, R101). -/
  | unmapped80 (w : Bool) (off : Offset) (v : Word)
  deriving DecidableEq, Repr

end Sys2Proof
end

