-- ==== Sys2Proof/Machine/State.lean ====
section
/-! DEFINITION. The state of the block (10_state.md R32), its reset value (70_reset_and_hazards.md R372) and the reasons a
step may stop. Plain data throughout. -/

namespace Sys2Proof.Machine

/-- The sticky bits of STATUS, bits 2 to 9 (R35). -/
structure Sticky where
  /-- Bit 2: a handshake frame accepted. -/
  evHs : Bool
  /-- Bit 3: an XP frame applied. -/
  evXp : Bool
  /-- Bit 4: a dump frame applied. -/
  evReady : Bool
  /-- Bit 5: any drop. -/
  errDrop : Bool
  /-- Bit 6: a matrix index or value out of range. -/
  errBounds : Bool
  /-- Bit 7: an illegal command or bad SET_XP operands. -/
  errCmd : Bool
  /-- Bit 8: output that does not fit in TX. -/
  errTxOvf : Bool
  /-- Bit 9: a bus error. -/
  errBus : Bool
  deriving DecidableEq, Repr

/-- The names of the sticky bits of STATUS (R35). -/
inductive StickyBit
  | evHs | evXp | evReady | errDrop | errBounds | errCmd | errTxOvf | errBus
  deriving DecidableEq, Repr

/-- The drop reasons of 60_exceptions.md R331, in the order of their codes 1 to 11. -/
inductive DropReason
  | rxOverflow | empty | notReady | truncated | badTag | malformed | lenMismatch | crcMismatch | badMask | bounds | txFull
  deriving DecidableEq, Repr

/-- What LAST_EVENT.KIND says of a commit (R47). -/
inductive EventKind
  | none | handshake | xp | ready | drop
  deriving DecidableEq, Repr

/-- What the bus answered to the last access: the model's own record of what the host observes (R381).
DESIGN CHOICE (log entry 7), safe. -/
inductive Reply
  /-- No access answered since reset. -/
  | none
  /-- A read answered with its 32-bit value (R290). -/
  | readOk (v : Word)
  /-- A write accepted (R290). -/
  | writeOk
  /-- A read answered with an error response and this data (R86). -/
  | readError (v : Word)
  /-- A write answered with an error response (R86). -/
  | writeError
  deriving DecidableEq, Repr

/-- The routing matrix M as a sparse list of (cell number, public source id); the cell numbers rise strictly and no
listed source is 0 (`RoutingMatrix.wf`). A cell that is not listed holds 0, absent (R44, log entry 11). -/
abbrev RoutingMatrix := List (Nat × PublicId)

/-- The whole state of the block (R32), with the model's own fields `build`, `reply` and `pending`. -/
structure State where
  /-- The build parameters (R8, R50). No step writes this field. DESIGN CHOICE (log entry 1), safe. -/
  build : Build
  /-- CTRL (R34). -/
  ctrl : Word
  /-- The sticky bits of STATUS (R35). -/
  sticky : Sticky
  /-- HS_DONE, the handshake-completed flag (R38). -/
  hsDone : Bool
  /-- RX_OVF: a byte was pushed into a full RX (R45). -/
  rxOvf : Bool
  /-- ARG_LEVEL (R39). -/
  argLevel : Level
  /-- ARG_DEST (R39). -/
  argDest : PublicId
  /-- ARG_SRC (R39). -/
  argSrc : PublicId
  /-- RESULT (R40). -/
  result : PublicId
  /-- TBUS_ADDR (R41). -/
  tbusAddr : Byte
  /-- CRC, the register of the stand-alone CRC engine (R42). -/
  crc : Half
  /-- LAST_EVENT (R47). -/
  lastEvent : Word
  /-- M, the routing matrix (R44). -/
  matrix : RoutingMatrix
  /-- RX, the receive buffer, the byte pushed first at the head (R45). -/
  rx : List Byte
  /-- TX, the transmit buffer, the byte to pop first at the head (R46). -/
  tx : List Byte
  /-- What the bus answered to the last access. DESIGN CHOICE (log entry 7), safe. -/
  reply : Reply
  /-- The host steps still to be served, in the host's order (R31, R90). DESIGN CHOICE (log entry 6), safe. -/
  pending : List HostStep
  deriving DecidableEq, Repr

/-- The reasons a step may stop with a fault. There are none: NKFCM has no traps, an error is recorded in STATUS and the
block goes on serving accesses (R330, R337). -/
inductive Fault
  deriving DecidableEq, Repr

/-- The reasons a step may be refused. -/
inductive Refusal
  /-- Raised by an arm of `exec` for an instruction that has no meaning yet, by its mnemonic; safe, because nothing is
  said of a next state. No arm raises it. -/
  | notModelled (mnemonic : String)
  deriving DecidableEq, Repr

/-- The state right after reset of a block of build `b` (R372). -/
def State.resetOf (b : Build) : State where
  build := b
  ctrl := 0x00000000#32
  sticky := ⟨false, false, false, false, false, false, false, false⟩
  hsDone := false
  rxOvf := false
  argLevel := 0#3
  argDest := 0#17
  argSrc := 0#17
  result := 0#17
  tbusAddr := 0xFE#8
  crc := 0xFFFF#16
  lastEvent := 0x00000000#32
  matrix := []
  rx := []
  tx := []
  reply := .none
  pending := []

/-- The state right after reset (R372) of the build with R8's defaults. -/
def State.reset : State := State.resetOf Config.defaultBuild

end Sys2Proof.Machine
end

