-- ==== Sys2Proof/Machine/Flags.lean ====
section
/-! DEFINITION. The fields of CTRL (R34), the sticky bits and the word STATUS (R35, R293, R294), the interrupt output
(R340), and the packing of LAST_EVENT (R47) with the drop reason codes (R331). -/

namespace Sys2Proof.Machine

/-- CTRL.CRC_CHECK_EN (R34). -/
def crcCheckEn (ctrl : Word) : Bool := ctrl.getLsbD 0

/-- CTRL.LEN_CHECK_EN (R34). -/
def lenCheckEn (ctrl : Word) : Bool := ctrl.getLsbD 1

/-- CTRL.OPT_WR (R34). -/
def optWr (ctrl : Word) : Bool := ctrl.getLsbD 2

/-- CTRL.IE_HS (R34). -/
def ieHs (ctrl : Word) : Bool := ctrl.getLsbD 8

/-- CTRL.IE_XP (R34). -/
def ieXp (ctrl : Word) : Bool := ctrl.getLsbD 9

/-- CTRL.IE_READY (R34). -/
def ieReady (ctrl : Word) : Bool := ctrl.getLsbD 10

/-- CTRL.IE_ERR (R34). -/
def ieErr (ctrl : Word) : Bool := ctrl.getLsbD 11

/-- The place of a sticky bit in STATUS (R35). -/
def StickyBit.index : StickyBit → Nat
  | .evHs => 2
  | .evXp => 3
  | .evReady => 4
  | .errDrop => 5
  | .errBounds => 6
  | .errCmd => 7
  | .errTxOvf => 8
  | .errBus => 9

/-- The value of a sticky bit. -/
def Sticky.get (st : Sticky) : StickyBit → Bool
  | .evHs => st.evHs
  | .evXp => st.evXp
  | .evReady => st.evReady
  | .errDrop => st.errDrop
  | .errBounds => st.errBounds
  | .errCmd => st.errCmd
  | .errTxOvf => st.errTxOvf
  | .errBus => st.errBus

/-- Setting one sticky bit; the others keep their values (R36). -/
def Sticky.set (st : Sticky) : StickyBit → Sticky
  | .evHs => { st with evHs := true }
  | .evXp => { st with evXp := true }
  | .evReady => { st with evReady := true }
  | .errDrop => { st with errDrop := true }
  | .errBounds => { st with errBounds := true }
  | .errCmd => { st with errCmd := true }
  | .errTxOvf => { st with errTxOvf := true }
  | .errBus => { st with errBus := true }

/-- Write 1 to clear: each sticky bit whose written bit is 1 becomes 0, the others keep their values (R294). -/
def Sticky.w1c (st : Sticky) (v : Word) : Sticky where
  evHs := st.evHs && !v.getLsbD 2
  evXp := st.evXp && !v.getLsbD 3
  evReady := st.evReady && !v.getLsbD 4
  errDrop := st.errDrop && !v.getLsbD 5
  errBounds := st.errBounds && !v.getLsbD 6
  errCmd := st.errCmd && !v.getLsbD 7
  errTxOvf := st.errTxOvf && !v.getLsbD 8
  errBus := st.errBus && !v.getLsbD 9

/-- Some error bit is pending (R339). -/
def Sticky.anyError (st : Sticky) : Bool :=
  st.errDrop || st.errBounds || st.errCmd || st.errTxOvf || st.errBus

/-- The interrupt output IRQ (R340). -/
def irq (s : State) : Bool :=
  (ieHs s.ctrl && s.sticky.evHs) || (ieXp s.ctrl && s.sticky.evXp) || (ieReady s.ctrl && s.sticky.evReady) ||
    (ieErr s.ctrl && s.sticky.anyError)

/-- The word a read of STATUS returns (R293). -/
def statusWord (s : State) : Word :=
  0#21 ++ BitVec.ofBool (irq s) ++ BitVec.ofBool s.sticky.errBus ++ BitVec.ofBool s.sticky.errTxOvf ++
    BitVec.ofBool s.sticky.errCmd ++ BitVec.ofBool s.sticky.errBounds ++ BitVec.ofBool s.sticky.errDrop ++
    BitVec.ofBool s.sticky.evReady ++ BitVec.ofBool s.sticky.evXp ++ BitVec.ofBool s.sticky.evHs ++
    BitVec.ofBool s.rxOvf ++ BitVec.ofBool s.hsDone

/-- The code of a drop reason (R331). -/
def DropReason.code : DropReason → BitVec 4
  | .rxOverflow => 1#4
  | .empty => 2#4
  | .notReady => 3#4
  | .truncated => 4#4
  | .badTag => 5#4
  | .malformed => 6#4
  | .lenMismatch => 7#4
  | .crcMismatch => 8#4
  | .badMask => 9#4
  | .bounds => 10#4
  | .txFull => 11#4

/-- The code of an event kind (R47). -/
def EventKind.code : EventKind → BitVec 4
  | .none => 0#4
  | .handshake => 1#4
  | .xp => 2#4
  | .ready => 3#4
  | .drop => 4#4

/-- A LAST_EVENT word from its fields DATA, LEVEL, REASON and KIND (R47). -/
def packEvent (data : BitVec 21) (level : Level) (reason : BitVec 4) (kind : EventKind) : Word :=
  data ++ level ++ reason ++ kind.code

/-- LAST_EVENT.KIND (R47). -/
def eventKindField (e : Word) : BitVec 4 := e.extractLsb' 0 4

/-- LAST_EVENT.REASON (R47). -/
def eventReasonField (e : Word) : BitVec 4 := e.extractLsb' 4 4

/-- LAST_EVENT.LEVEL (R47). -/
def eventLevelField (e : Word) : Level := e.extractLsb' 8 3

/-- LAST_EVENT.DATA (R47). -/
def eventDataField (e : Word) : BitVec 21 := e.extractLsb' 11 21

/-- The word LAST_EVENT takes at a drop (R169). -/
def dropEvent (r : DropReason) : Word := packEvent 0#21 0#3 r.code .drop

/-- The word LAST_EVENT takes at a handshake (R155). -/
def handshakeEvent : Word := packEvent 0#21 0#3 0#4 .handshake

/-- The word LAST_EVENT takes when an XP frame is applied (R165): DATA is the destination. -/
def xpEvent (c : Level) (d : PublicId) : Word := packEvent (d.setWidth 21) c 0#4 .xp

/-- The word LAST_EVENT takes when a dump of `n` entries is applied (R167): DATA is the count, which fits 21 bits in
every build of R8's ranges. -/
def readyEvent (c : Level) (n : Nat) : Word := packEvent (BitVec.ofNat 21 n) c 0#4 .ready

end Sys2Proof.Machine
end

