-- ==== Sys2Proof/Machine/Operands.lean ====
section
/-! DEFINITION. Operands: bytes and fields of byte sequences (00_scope.md R12, R13), byte order on the wire (R89, R115),
public and wire ids (R15, R112), level masks (R43, R164), the matrix bounds (R260), and what a register write keeps of
its value (44_host_control.md). -/

namespace Sys2Proof.Machine

/-- `S[i]`, byte i of a sequence, counted from 0 (R13). It is used only where i is below the length. -/
def byteAt (bytes : List Byte) (i : Nat) : Byte := bytes.getD i 0#8

/-- `S[i..j]`, bytes i to j inclusive; empty if j < i (R13). -/
def bytesFromTo (bytes : List Byte) (i j : Nat) : List Byte := (bytes.drop i).take (j + 1 - i)

/-- BE16(x, y) = x * 256 + y (R12). -/
def be16 (x y : Byte) : Half := x ++ y

/-- LE16(x, y) = y * 256 + x (R12). -/
def le16 (x y : Byte) : Half := y ++ x

/-- A 16-bit field rendered most significant byte first (R89, R115). -/
def bytesBE16 (v : Half) : List Byte := [v.extractLsb' 8 8, v.extractLsb' 0 8]

/-- A 32-bit field rendered most significant byte first (R89, R115). -/
def bytesBE32 (v : Word) : List Byte :=
  [v.extractLsb' 24 8, v.extractLsb' 16 8, v.extractLsb' 8 8, v.extractLsb' 0 8]

/-- The CRC as it goes on the wire: low byte first (R89, R237). -/
def bytesLE16 (v : Half) : List Byte := [v.extractLsb' 0 8, v.extractLsb' 8 8]

/-- A 16-bit value with its bytes exchanged: `{v[7:0], v[15:8]}` (R42, R236). -/
def swapBytes (v : Half) : Half := v.extractLsb' 0 8 ++ v.extractLsb' 8 8

/-- `zext_32` of a byte count or build parameter (R45, R46, R48). -/
def wordOfNat (n : Nat) : Word := BitVec.ofNat 32 n

/-- The public id of a wire id, `zext_17(w) + 1` (R112, R165): 1..65536. -/
def publicOfWire (w : Half) : PublicId := w.setWidth 17 + 1#17

/-- The wire id of a public id, `d - 1` as 16 bits (R112, R200). -/
def wireOfPublic (d : PublicId) : Half := (d - 1#17).setWidth 16

/-- The outbound level mask of a level code, `1 << c` as 32 bits (R43, R112, R200). -/
def maskOfLevel (c : Level) : Word := 1#32 <<< c.toNat

/-- The eight level codes (R43). -/
def levelCodes : List Level := [0#3, 1#3, 2#3, 3#3, 4#3, 5#3, 6#3, 7#3]

/-- The level code of an inbound mask: the c below NUM_LEVELS with m = 1 << c, if there is one (R164). -/
def levelOfMask (numLevels : Nat) (m : Half) : Option Level :=
  levelCodes.find? fun c => decide (c.toNat < numLevels) && m == 1#16 <<< c.toNat

/-- The index (c, d) is in range: c < NUM_LEVELS and 1 <= d <= NUM_OUTPUTS (R260). -/
def indexInRange (b : Build) (c : Level) (d : Nat) : Bool :=
  decide (c.toNat < b.numLevels) && decide (1 ≤ d) && decide (d ≤ b.numOutputs)

/-- A source value is in range for a write: s <= NUM_INPUTS, where 0 means absent (R260). -/
def sourceInRange (b : Build) (s : PublicId) : Bool := decide (s.toNat ≤ b.numInputs)

/-- The operands of SET_XP are good: an index in range and a source in 1..NUM_INPUTS (R201). -/
def setXpOperandsOk (b : Build) (c : Level) (d s : PublicId) : Bool :=
  indexInRange b c d.toNat && decide (s ≠ 0#17) && sourceInRange b s

/-- The number of a matrix cell (c, d). A public destination is at most 65536, below the row width 131072, so different
cells have different numbers (log entry 11). -/
def cellNumber (c : Level) (d : Nat) : Nat := c.toNat * 131072 + d

/-- CTRL without its reserved bits: what a write stores and a read returns (R34, R291, R292). -/
def ctrlOf (v : Word) : Word := v &&& 0x00000F07#32

/-- What a write of `v` to ARG_LEVEL stores, v[2:0] (R307). -/
def levelOf (v : Word) : Level := v.setWidth 3

/-- What a write of `v` to ARG_DEST or ARG_SRC stores, v[16:0] (R309, R311). -/
def idOf (v : Word) : PublicId := v.setWidth 17

/-- v[7:0]: what TBUS_ADDR, RX_DATA and CRC_DATA take of a written value (R313, R296, R234). -/
def byteOf (v : Word) : Byte := v.setWidth 8

/-- v[15:0]: what CRC_VALUE takes of a written value (R235). -/
def halfOf (v : Word) : Half := v.setWidth 16

end Sys2Proof.Machine
end

