-- ==== Sys2Proof/Machine/Ops.lean ====
section
/-! DEFINITION. The named operations over the state: replacing one field, the routing matrix store, the buffers, the two
error operations of the pseudocode (`raise Drop`, `raise BusError`; the block has no other exception, R330) and reset. -/

namespace Sys2Proof.Machine

/-- CTRL replaced, everything else kept. -/
def State.withCtrl (s : State) (v : Word) : State := { s with ctrl := v }

/-- The sticky bits of STATUS replaced, everything else kept. -/
def State.withSticky (s : State) (v : Sticky) : State := { s with sticky := v }

/-- HS_DONE replaced, everything else kept. -/
def State.withHsDone (s : State) (v : Bool) : State := { s with hsDone := v }

/-- RX_OVF replaced, everything else kept. -/
def State.withRxOvf (s : State) (v : Bool) : State := { s with rxOvf := v }

/-- ARG_LEVEL replaced, everything else kept. -/
def State.withArgLevel (s : State) (v : Level) : State := { s with argLevel := v }

/-- ARG_DEST replaced, everything else kept. -/
def State.withArgDest (s : State) (v : PublicId) : State := { s with argDest := v }

/-- ARG_SRC replaced, everything else kept. -/
def State.withArgSrc (s : State) (v : PublicId) : State := { s with argSrc := v }

/-- RESULT replaced, everything else kept. -/
def State.withResult (s : State) (v : PublicId) : State := { s with result := v }

/-- TBUS_ADDR replaced, everything else kept. -/
def State.withTbusAddr (s : State) (v : Byte) : State := { s with tbusAddr := v }

/-- CRC replaced, everything else kept. -/
def State.withCrc (s : State) (v : Half) : State := { s with crc := v }

/-- LAST_EVENT replaced, everything else kept. -/
def State.withLastEvent (s : State) (v : Word) : State := { s with lastEvent := v }

/-- M replaced, everything else kept. -/
def State.withMatrix (s : State) (v : RoutingMatrix) : State := { s with matrix := v }

/-- RX replaced, everything else kept. -/
def State.withRx (s : State) (v : List Byte) : State := { s with rx := v }

/-- TX replaced, everything else kept. -/
def State.withTx (s : State) (v : List Byte) : State := { s with tx := v }

/-- The bus reply replaced, everything else kept. -/
def State.withReply (s : State) (v : Reply) : State := { s with reply := v }

/-- The host steps still to be served replaced, everything else kept. -/
def State.withPending (s : State) (v : List HostStep) : State := { s with pending := v }

/-- An access answered: the bus reply recorded. -/
def readAnswers (s : State) (v : Word) : State := s.withReply (.readOk v)

/-- A write accepted. -/
def writeAccepted (s : State) : State := s.withReply .writeOk

/-- One sticky STATUS bit set (R36). -/
def setSticky (s : State) (b : StickyBit) : State := s.withSticky (s.sticky.set b)

/-- The value at a cell number; a cell that is not listed holds 0, absent (R44, R372). -/
def readCell : RoutingMatrix → Nat → PublicId
  | [], _ => 0#17
  | (k', v') :: m, k => if k' = k then v' else readCell m k

/-- The value at a cell number replaced, keeping the canonical form: writing 0 removes the entry. -/
def writeCell : RoutingMatrix → Nat → PublicId → RoutingMatrix
  | [], k, v => if v = 0#17 then [] else [(k, v)]
  | (k', v') :: m, k, v =>
    if k < k' then (if v = 0#17 then (k', v') :: m else (k, v) :: (k', v') :: m)
    else if k = k' then (if v = 0#17 then m else (k, v) :: m)
    else (k', v') :: writeCell m k v

/-- The canonical form of the matrix store: cell numbers strictly rising, and no listed value 0. -/
abbrev RoutingMatrix.wf (m : RoutingMatrix) : Prop :=
  m.Pairwise (fun x y => x.1 < y.1) ∧ ∀ e ∈ m, e.2 ≠ 0#17

/-- `M[c][d]` (R14, R44). -/
def State.cell (s : State) (c : Level) (d : Nat) : PublicId := readCell s.matrix (cellNumber c d)

/-- `M[c][d] <- v` (R14, R44). -/
def setCell (s : State) (c : Level) (d : Nat) (v : PublicId) : State :=
  s.withMatrix (writeCell s.matrix (cellNumber c d) v)

/-- Every cell 0 (R263). -/
def clearMatrix (s : State) : State := s.withMatrix []

/-- RX emptied and RX_OVF cleared (R168, R299, R303). -/
def emptyRx (s : State) : State := (s.withRx []).withRxOvf false

/-- A byte pushed into RX; into a full RX, the byte is lost and RX_OVF set (R296). -/
def pushRx (s : State) (b : Byte) : State :=
  if s.rx.length < s.build.rxMax then s.withRx (s.rx ++ [b]) else s.withRxOvf true

/-- A whole frame appended to TX (R46). -/
def appendTx (s : State) (frame : List Byte) : State := s.withTx (s.tx ++ frame)

/-- TX has room for `n` more bytes: not TX_MAX - len(TX) < n (R155, R201). -/
def txHasRoom (s : State) (n : Nat) : Bool := decide (n ≤ s.build.txMax - s.tx.length)

/-- The word a read of TX_DATA returns: the first byte, or EMPTY, bit 8 (R46, R297). -/
def txHeadWord (s : State) : Word :=
  match s.tx with
  | [] => 0x00000100#32
  | b :: _ => b.setWidth 32

/-- The first byte of TX removed, if there is one (R297). -/
def popTx (s : State) : State := s.withTx s.tx.tail

/-- `raise Drop(r)`: ERR_DROP set and the outcome recorded, nothing else (R169). -/
def raiseDrop (s : State) (r : DropReason) : State :=
  (setSticky s .errDrop).withLastEvent (dropEvent r)

/-- The error response to an access: a read that errs returns 0 (R86, R336). -/
def errorReply (w : Bool) : Reply := if w then .writeError else .readError 0x00000000#32

/-- `raise BusError`: ERR_BUS set, nothing of the access performed, an error response (R86, R336). `w` is true for a
write. -/
def raiseBusError (s : State) (w : Bool) : State :=
  (setSticky s .errBus).withReply (errorReply w)

/-- RST asserted and released, one atomic step: every piece of state at its reset value (R370, R372, R373). The build is
fixed, and the host steps after the reset are still to be served.
DEDUCED (log entry 8), safe. -/
def applyReset (s : State) : State := (State.resetOf s.build).withPending s.pending

end Sys2Proof.Machine
end

