-- ==== Sys2Proof/Machine/BytePorts.lean ====
section
/-! DEFINITION. The byte ports of 44_host_control.md: pushing into RX, popping from TX, and the two counts. -/

namespace Sys2Proof.Machine

/-- WR_RX_DATA: v[7:0] pushed into RX (R296). -/
def execWrRxData (v : Word) (s : State) : Host.Outcome State Fault Refusal :=
  .next (writeAccepted (pushRx s (byteOf v)))

/-- RD_TX_DATA: the first byte of TX returned and removed, or EMPTY (R297). -/
def execRdTxData (s : State) : Host.Outcome State Fault Refusal :=
  .next (readAnswers (popTx s) (txHeadWord s))

/-- RD_RX_COUNT: zext_32(len(RX)) (R301). -/
def execRdRxCount (s : State) : Host.Outcome State Fault Refusal :=
  .next (readAnswers s (wordOfNat s.rx.length))

/-- RD_TX_COUNT: zext_32(len(TX)) (R302). -/
def execRdTxCount (s : State) : Host.Outcome State Fault Refusal :=
  .next (readAnswers s (wordOfNat s.tx.length))

end Sys2Proof.Machine
end

