-- ==== Sys2Proof/Machine/Control.lean ====
section
/-! DEFINITION. The commands without operands of 44_host_control.md: NOP, RX_CLEAR, TX_CLEAR, LINK_DOWN, and CMD_ILLEGAL. -/

namespace Sys2Proof.Machine

/-- NOP, opcode 0x00 (R298). -/
def execNop (s : State) : Host.Outcome State Fault Refusal :=
  .next (writeAccepted s)

/-- RX_CLEAR, opcode 0x02 (R299). -/
def execRxClear (s : State) : Host.Outcome State Fault Refusal :=
  .next (writeAccepted (emptyRx s))

/-- TX_CLEAR, opcode 0x03 (R300). -/
def execTxClear (s : State) : Host.Outcome State Fault Refusal :=
  .next (writeAccepted (s.withTx []))

/-- LINK_DOWN, opcode 0x09: HS_DONE, RX and RX_OVF cleared (R303). -/
def execLinkDown (s : State) : Host.Outcome State Fault Refusal :=
  .next (writeAccepted (emptyRx (s.withHsDone false)))

/-- CMD_ILLEGAL: ERR_CMD set and nothing else (R306); the written value is not used. -/
def execCmdIllegal (_v : Word) (s : State) : Host.Outcome State Fault Refusal :=
  .next (writeAccepted (setSticky s .errCmd))

end Sys2Proof.Machine
end

