-- ==== Sys2Proof/Machine/Crc.lean ====
section
/-! DEFINITION. The CRC-16 function of 42_crc.md R231 and R232, shared by the CRC engine, the frame encoder and the frame
validator. -/

namespace Sys2Proof.Machine

/-- One pass of the loop of R232: shift right by one, XOR 0xA001 when the bit shifted out is 1. -/
def crcBit (r : Half) : Half :=
  if r.getLsbD 0 then (r >>> 1) ^^^ 0xA001#16 else r >>> 1

/-- `n` passes of the loop of R232. -/
def crcBits : Nat → Half → Half
  | 0, r => r
  | n + 1, r => crcBits n (crcBit r)

/-- crcStep: one byte updates a 16-bit value (R232). -/
def crcStep (r : Half) (b : Byte) : Half :=
  crcBits 8 (r ^^^ b.setWidth 16)

/-- The running checksum: crcStep over the bytes in order, from `r` (R231). -/
def crcRun (r : Half) (bytes : List Byte) : Half :=
  bytes.foldl crcStep r

/-- crc16 of a byte sequence: from 0xFFFF, with no final XOR (R231). -/
def crc16 (bytes : List Byte) : Half :=
  crcRun 0xFFFF#16 bytes

end Sys2Proof.Machine
end

