-- ==== Sys2Proof/Machine/CrcEngine.lean ====
section
/-! DEFINITION. The stand-alone CRC engine of 42_crc.md: CRC_INIT and the ports CRC_VALUE, CRC_DATA and CRC_SWAP. -/

namespace Sys2Proof.Machine

/-- CRC_INIT, opcode 0x08 (R233). -/
def execCrcInit (s : State) : Host.Outcome State Fault Refusal :=
  .next (writeAccepted (s.withCrc 0xFFFF#16))

/-- WR_CRC_VALUE: CRC <- v[15:0] (R235). -/
def execWrCrcValue (v : Word) (s : State) : Host.Outcome State Fault Refusal :=
  .next (writeAccepted (s.withCrc (halfOf v)))

/-- WR_CRC_DATA: CRC <- crcStep(CRC, v[7:0]) (R234). -/
def execWrCrcData (v : Word) (s : State) : Host.Outcome State Fault Refusal :=
  .next (writeAccepted (s.withCrc (crcStep s.crc (byteOf v))))

/-- RD_CRC_VALUE: zext_32(CRC) (R241). -/
def execRdCrcValue (s : State) : Host.Outcome State Fault Refusal :=
  .next (readAnswers s (s.crc.setWidth 32))

/-- RD_CRC_SWAP: zext_32 of CRC with its bytes exchanged (R236). -/
def execRdCrcSwap (s : State) : Host.Outcome State Fault Refusal :=
  .next (readAnswers s ((swapBytes s.crc).setWidth 32))

end Sys2Proof.Machine
end

