-- ==== Sys2Proof/Machine/FrameDecode.lean ====
section
/-! DEFINITION. The frame decoder and validator of 40_frame_decode.md: the order of checks (R151), the handshake (R155), the
application of an XP frame (R163 to R165) and of a dump frame (R166, R167), and the command RX_COMMIT (R150). -/

namespace Sys2Proof.Machine

/-- What the checks of R151 say of a frame. -/
inductive FrameVerdict
  /-- Dropped by one of the checks up to the checksum, with its reason. -/
  | drop (r : DropReason)
  /-- The handshake banner. -/
  | banner
  /-- A valid single-crosspoint frame. -/
  | xp
  /-- A valid full-table dump. -/
  | dump
  deriving DecidableEq, Repr

/-- The ASCII codes of "Welcome" (R13, R107).
PRESUMED by the spec itself (log entry 12): the codes are marked there as general knowledge. -/
def welcome : List Byte := [0x57#8, 0x65#8, 0x6C#8, 0x63#8, 0x6F#8, 0x6D#8, 0x65#8]

/-- The frame is the handshake banner: at least 7 bytes, the first 7 are "Welcome" (R107, R154). -/
def isBanner (f : List Byte) : Bool := decide (7 ≤ f.length) && bytesFromTo f 0 6 == welcome

/-- The length byte agrees: F[6] = (L - 7) mod 256 (R161). -/
def lengthByteOk (f : List Byte) : Bool := (byteAt f 6).toNat == (f.length - 7) % 256

/-- The checksum agrees: crc16(F[7..L-3]) = LE16(F[L-2], F[L-1]) (R162). -/
def checksumOk (f : List Byte) : Bool :=
  crc16 (bytesFromTo f 7 (f.length - 3)) == le16 (byteAt f (f.length - 2)) (byteAt f (f.length - 1))

/-- The optional checks of a frame of a known shape, the length byte before the checksum (R161, R162). -/
def optionalChecks (ctrl : Word) (f : List Byte) (shape : FrameVerdict) : FrameVerdict :=
  if lenCheckEn ctrl && !lengthByteOk f then .drop .lenMismatch
  else if crcCheckEn ctrl && !checksumOk f then .drop .crcMismatch
  else shape

/-- The decode order of R151, up to the frame's kind: the first check that fails gives the drop reason (R333). -/
def frameVerdict (tag : List Byte) (ctrl : Word) (hsDone rxOvf : Bool) (f : List Byte) : FrameVerdict :=
  if rxOvf then .drop .rxOverflow
  else if f.length = 0 then .drop .empty
  else if isBanner f then .banner
  else if !hsDone then .drop .notReady
  else if f.length < 10 then .drop .truncated
  else if bytesFromTo f 7 9 ≠ tag then .drop .badTag
  else if f.length = 20 then optionalChecks ctrl f .xp
  else if f.length < 18 then .drop .truncated
  else if (f.length - 18) % 3 ≠ 0 then .drop .malformed
  else optionalChecks ctrl f .dump

/-- The handshake action (R155): INIT_FRAME appended whole, or a drop when TX lacks 23 free bytes. -/
def handshake (s : State) : State :=
  if !txHasRoom s 23 then raiseDrop (setSticky s .errTxOvf) .txFull
  else
    (setSticky ((appendTx s s.build.initFrame.toList).withHsDone true) .evHs).withLastEvent handshakeEvent

/-- The wire destination of an XP frame (R163). -/
def xpWireDest (f : List Byte) : Half := be16 (byteAt f 12) (byteAt f 13)

/-- The wire source of an XP frame (R163). -/
def xpWireSource (f : List Byte) : Half := be16 (byteAt f 14) (byteAt f 15)

/-- The level mask of an XP frame (R163). -/
def xpMask (f : List Byte) : Half := be16 (byteAt f 16) (byteAt f 17)

/-- An XP frame's crosspoint applied: the bounds, then the write, the event and its record (R165). -/
def applyCrosspoint (s : State) (c : Level) (d src : PublicId) : State :=
  if s.build.numOutputs < d.toNat ∨ s.build.numInputs < src.toNat then raiseDrop (setSticky s .errBounds) .bounds
  else (setSticky (setCell s c d.toNat src) .evXp).withLastEvent (xpEvent c d)

/-- applyXP (R163, R164, R165). -/
def applyXp (s : State) (f : List Byte) : State :=
  match levelOfMask s.build.numLevels (xpMask f) with
  | none => raiseDrop s .badMask
  | some c => applyCrosspoint s c (publicOfWire (xpWireDest f)) (publicOfWire (xpWireSource f))

/-- dumpEntryDecode (R166): the destination and the source of entry k with the bytes e0, e1, e2. R166's default gives
(k + 1, BE16(e1, e2) + 1), with k + 1 an unbounded natural (R18; DEDUCED, log entry 5, unsafe). -/
def dumpEntryDecode (dec : DumpDecoder) (k : Nat) (e0 e1 e2 : Byte) : Nat × PublicId :=
  match dec with
  | .standard => (k + 1, publicOfWire (be16 e1 e2))
  | .other => ((Config.dumpEntryDecode k e0 e1 e2).1.toNat, (Config.dumpEntryDecode k e0 e1 e2).2)

/-- The number of entries of a dump frame, (L - 18) / 3 (R106, R167). -/
def dumpCount (f : List Byte) : Nat := (f.length - 18) / 3

/-- Entry k of a dump frame, decoded from bytes 16 + 3k .. 18 + 3k (R106, R167). -/
def dumpEntry (dec : DumpDecoder) (f : List Byte) (k : Nat) : Nat × PublicId :=
  dumpEntryDecode dec k (byteAt f (16 + 3 * k)) (byteAt f (17 + 3 * k)) (byteAt f (18 + 3 * k))

/-- One entry of a dump applied: written when in range, skipped with ERR_BOUNDS otherwise (R167). -/
def applyEntry (s : State) (e : Nat × PublicId) : State :=
  if 1 ≤ e.1 ∧ e.1 ≤ s.build.numOutputs ∧ e.2.toNat ≤ s.build.numInputs then setCell s s.build.dumpLevel e.1 e.2
  else setSticky s .errBounds

/-- The entries of a dump applied in increasing order (R167). -/
def applyEntries (s : State) (es : List (Nat × PublicId)) : State := es.foldl applyEntry s

/-- The entries of a dump frame in increasing order of k (R167). -/
def dumpEntries (dec : DumpDecoder) (f : List Byte) : List (Nat × PublicId) :=
  (List.range (dumpCount f)).map (dumpEntry dec f)

/-- applyDump (R167). -/
def applyDump (s : State) (f : List Byte) : State :=
  (setSticky (applyEntries s (dumpEntries s.build.dumpDecoder f)) .evReady).withLastEvent
    (readyEvent s.build.dumpLevel (dumpCount f))

/-- The effect of a verdict on a state whose RX has been emptied (R151, R169). -/
def applyVerdict (s : State) (f : List Byte) : FrameVerdict → State
  | .drop r => raiseDrop s r
  | .banner => handshake s
  | .xp => applyXp s f
  | .dump => applyDump s f

/-- RX_COMMIT: RX and RX_OVF taken and cleared in every outcome, then the verdict's effect (R151, R168). -/
def commitEffect (s : State) : State :=
  applyVerdict (emptyRx s) s.rx (frameVerdict s.build.tag s.ctrl s.hsDone s.rxOvf s.rx)

/-- RX_COMMIT, opcode 0x01 (R150). -/
def execRxCommit (s : State) : Host.Outcome State Fault Refusal :=
  .next (writeAccepted (commitEffect s))

end Sys2Proof.Machine
end

