-- ==== Sys2Proof/Machine/FrameEncode.lean ====
section
/-! DEFINITION. The frame encoder: the set-crosspoint frame (41_frame_encode.md R200, 30_encoding.md R103) and the command
SET_XP (R201). -/

namespace Sys2Proof.Machine

/-- The payload of the set-crosspoint frame, bytes 7..21: tag, TBUS address, command pair, wire destination, wire source,
level mask, and a zero byte (R200). -/
def setPayload (b : Build) (c : Level) (d s : PublicId) (a : Byte) : List Byte :=
  b.tag ++ [a] ++ b.cmdSet.toList ++ bytesBE16 (wireOfPublic d) ++ bytesBE16 (wireOfPublic s) ++
    bytesBE32 (maskOfLevel c) ++ [0x00#8]

/-- encodeSet(c, d, s, a): the 24-byte frame, the header, the length byte 0x11, the payload and its CRC low byte first
(R200, R116, R237). -/
def encodeSet (b : Build) (c : Level) (d s : PublicId) (a : Byte) : List Byte :=
  b.txHdr.toList ++ [0x11#8] ++ setPayload b c d s a ++ bytesLE16 (crc16 (setPayload b c d s a))

/-- The optimistic write: with OPT_WR set, M[c][d] <- s (R204). -/
def optimisticWrite (s : State) : State :=
  if optWr s.ctrl then setCell s s.argLevel s.argDest.toNat s.argSrc else s

/-- SET_XP (R201). -/
def setXpEffect (s : State) : State :=
  if !setXpOperandsOk s.build s.argLevel s.argDest s.argSrc then setSticky s .errCmd
  else if !txHasRoom s 24 then setSticky s .errTxOvf
  else optimisticWrite (appendTx s (encodeSet s.build s.argLevel s.argDest s.argSrc s.tbusAddr))

/-- SET_XP, opcode 0x04 (R201, R202: not gated by HS_DONE). -/
def execSetXp (s : State) : Host.Outcome State Fault Refusal :=
  .next (writeAccepted (setXpEffect s))

end Sys2Proof.Machine
end

