-- ==== Sys2Proof/Machine/Ignored.lean ====
section
/-! DEFINITION. The accesses that make no sense and are silent (10_state.md R49): writes of read-only registers (R320) and
reads of write-only registers (R321). -/

namespace Sys2Proof.Machine

/-- A write of a read-only register: accepted, changes no state, raises no error (R49, R320). -/
def writeIgnored (s : State) : Host.Outcome State Fault Refusal := .next (writeAccepted s)

/-- A read of a write-only register: returns 0, changes no state (R49, R321). -/
def readAsZero (s : State) : Host.Outcome State Fault Refusal := .next (readAnswers s 0x00000000#32)

/-- RD_CMD: CMD is write-only, the read returns 0 (R321). -/
def execRdCmd (s : State) : Host.Outcome State Fault Refusal := readAsZero s

/-- RD_RX_DATA: RX_DATA is write-only, the read returns 0 (R321). -/
def execRdRxData (s : State) : Host.Outcome State Fault Refusal := readAsZero s

/-- RD_CRC_DATA: CRC_DATA is write-only, the read returns 0 (R321). -/
def execRdCrcData (s : State) : Host.Outcome State Fault Refusal := readAsZero s

/-- WR_RESULT: RESULT is read-only, the write is ignored (R320). -/
def execWrResult (_v : Word) (s : State) : Host.Outcome State Fault Refusal := writeIgnored s

/-- WR_RX_COUNT: RX_COUNT is read-only, the write is ignored (R320). -/
def execWrRxCount (_v : Word) (s : State) : Host.Outcome State Fault Refusal := writeIgnored s

/-- WR_TX_DATA: TX_DATA is read-only, the write is ignored (R320). -/
def execWrTxData (_v : Word) (s : State) : Host.Outcome State Fault Refusal := writeIgnored s

/-- WR_TX_COUNT: TX_COUNT is read-only, the write is ignored (R320). -/
def execWrTxCount (_v : Word) (s : State) : Host.Outcome State Fault Refusal := writeIgnored s

/-- WR_CRC_SWAP: CRC_SWAP is read-only, the write is ignored (R320). -/
def execWrCrcSwap (_v : Word) (s : State) : Host.Outcome State Fault Refusal := writeIgnored s

/-- WR_LAST_EVENT: LAST_EVENT is read-only, the write is ignored (R320). -/
def execWrLastEvent (_v : Word) (s : State) : Host.Outcome State Fault Refusal := writeIgnored s

/-- WR_CFG_LEVELS: CFG_LEVELS is read-only, the write is ignored (R320). -/
def execWrCfgLevels (_v : Word) (s : State) : Host.Outcome State Fault Refusal := writeIgnored s

/-- WR_CFG_OUTPUTS: CFG_OUTPUTS is read-only, the write is ignored (R320). -/
def execWrCfgOutputs (_v : Word) (s : State) : Host.Outcome State Fault Refusal := writeIgnored s

/-- WR_CFG_INPUTS: CFG_INPUTS is read-only, the write is ignored (R320). -/
def execWrCfgInputs (_v : Word) (s : State) : Host.Outcome State Fault Refusal := writeIgnored s

/-- WR_CFG_RXMAX: CFG_RXMAX is read-only, the write is ignored (R320). -/
def execWrCfgRxmax (_v : Word) (s : State) : Host.Outcome State Fault Refusal := writeIgnored s

/-- WR_CFG_TXMAX: CFG_TXMAX is read-only, the write is ignored (R320). -/
def execWrCfgTxmax (_v : Word) (s : State) : Host.Outcome State Fault Refusal := writeIgnored s

end Sys2Proof.Machine
end

