-- ==== Sys2Proof/Machine/MatrixCommands.lean ====
section
/-! DEFINITION. The matrix commands of 43_matrix.md: MX_GET, MX_SET, MX_CLEAR. -/

namespace Sys2Proof.Machine

/-- MX_GET: RESULT <- M[c][d], or 0 with ERR_BOUNDS out of range (R261). -/
def mxGetEffect (s : State) : State :=
  if indexInRange s.build s.argLevel s.argDest.toNat then s.withResult (s.cell s.argLevel s.argDest.toNat)
  else setSticky (s.withResult 0#17) .errBounds

/-- MX_SET: M[c][d] <- s, or ERR_BOUNDS out of range (R262). -/
def mxSetEffect (s : State) : State :=
  if indexInRange s.build s.argLevel s.argDest.toNat && sourceInRange s.build s.argSrc then
    setCell s s.argLevel s.argDest.toNat s.argSrc
  else setSticky s .errBounds

/-- MX_GET, opcode 0x05 (R261). -/
def execMxGet (s : State) : Host.Outcome State Fault Refusal :=
  .next (writeAccepted (mxGetEffect s))

/-- MX_SET, opcode 0x06 (R262). -/
def execMxSet (s : State) : Host.Outcome State Fault Refusal :=
  .next (writeAccepted (mxSetEffect s))

/-- MX_CLEAR, opcode 0x07 (R263). -/
def execMxClear (s : State) : Host.Outcome State Fault Refusal :=
  .next (writeAccepted (clearMatrix s))

end Sys2Proof.Machine
end

