-- ==== Sys2Proof/Machine/Registers.lean ====
section
/-! DEFINITION. Reads and writes of the registers of 44_host_control.md: control and status, operands and address, result
and event, configuration (10_state.md R34 to R48). -/

namespace Sys2Proof.Machine

/-- RD_CTRL: CTRL, reserved bits read 0 (R291). -/
def execRdCtrl (s : State) : Host.Outcome State Fault Refusal :=
  .next (readAnswers s (ctrlOf s.ctrl))

/-- WR_CTRL: CTRL <- v without its reserved bits (R292). -/
def execWrCtrl (v : Word) (s : State) : Host.Outcome State Fault Refusal :=
  .next (writeAccepted (s.withCtrl (ctrlOf v)))

/-- RD_STATUS: the STATUS word (R293). -/
def execRdStatus (s : State) : Host.Outcome State Fault Refusal :=
  .next (readAnswers s (statusWord s))

/-- WR_STATUS: each sticky bit whose written bit is 1 cleared (R294). -/
def execWrStatus (v : Word) (s : State) : Host.Outcome State Fault Refusal :=
  .next (writeAccepted (s.withSticky (s.sticky.w1c v)))

/-- WR_ARG_LEVEL: ARG_LEVEL <- v[2:0] (R307). -/
def execWrArgLevel (v : Word) (s : State) : Host.Outcome State Fault Refusal :=
  .next (writeAccepted (s.withArgLevel (levelOf v)))

/-- RD_ARG_LEVEL: zext_32(ARG_LEVEL) (R308). -/
def execRdArgLevel (s : State) : Host.Outcome State Fault Refusal :=
  .next (readAnswers s (s.argLevel.setWidth 32))

/-- WR_ARG_DEST: ARG_DEST <- v[16:0] (R309). -/
def execWrArgDest (v : Word) (s : State) : Host.Outcome State Fault Refusal :=
  .next (writeAccepted (s.withArgDest (idOf v)))

/-- RD_ARG_DEST: zext_32(ARG_DEST) (R310). -/
def execRdArgDest (s : State) : Host.Outcome State Fault Refusal :=
  .next (readAnswers s (s.argDest.setWidth 32))

/-- WR_ARG_SRC: ARG_SRC <- v[16:0] (R311). -/
def execWrArgSrc (v : Word) (s : State) : Host.Outcome State Fault Refusal :=
  .next (writeAccepted (s.withArgSrc (idOf v)))

/-- RD_ARG_SRC: zext_32(ARG_SRC) (R312). -/
def execRdArgSrc (s : State) : Host.Outcome State Fault Refusal :=
  .next (readAnswers s (s.argSrc.setWidth 32))

/-- RD_RESULT: zext_32(RESULT) (R305). -/
def execRdResult (s : State) : Host.Outcome State Fault Refusal :=
  .next (readAnswers s (s.result.setWidth 32))

/-- WR_TBUS_ADDR: TBUS_ADDR <- v[7:0] (R313). -/
def execWrTbusAddr (v : Word) (s : State) : Host.Outcome State Fault Refusal :=
  .next (writeAccepted (s.withTbusAddr (byteOf v)))

/-- RD_TBUS_ADDR: zext_32(TBUS_ADDR) (R314). -/
def execRdTbusAddr (s : State) : Host.Outcome State Fault Refusal :=
  .next (readAnswers s (s.tbusAddr.setWidth 32))

/-- RD_LAST_EVENT: LAST_EVENT (R304). -/
def execRdLastEvent (s : State) : Host.Outcome State Fault Refusal :=
  .next (readAnswers s s.lastEvent)

/-- RD_CFG_LEVELS: zext_32(NUM_LEVELS) (R315). -/
def execRdCfgLevels (s : State) : Host.Outcome State Fault Refusal :=
  .next (readAnswers s (wordOfNat s.build.numLevels))

/-- RD_CFG_OUTPUTS: zext_32(NUM_OUTPUTS) (R316). -/
def execRdCfgOutputs (s : State) : Host.Outcome State Fault Refusal :=
  .next (readAnswers s (wordOfNat s.build.numOutputs))

/-- RD_CFG_INPUTS: zext_32(NUM_INPUTS) (R317). -/
def execRdCfgInputs (s : State) : Host.Outcome State Fault Refusal :=
  .next (readAnswers s (wordOfNat s.build.numInputs))

/-- RD_CFG_RXMAX: zext_32(RX_MAX) (R318). -/
def execRdCfgRxmax (s : State) : Host.Outcome State Fault Refusal :=
  .next (readAnswers s (wordOfNat s.build.rxMax))

/-- RD_CFG_TXMAX: zext_32(TX_MAX) (R319). -/
def execRdCfgTxmax (s : State) : Host.Outcome State Fault Refusal :=
  .next (readAnswers s (wordOfNat s.build.txMax))

end Sys2Proof.Machine
end

