-- ==== Sys2Proof/Machine/Unmapped.lean ====
section
/-! DEFINITION. Accesses to the unmapped offsets 0x54..0xFF: bus errors (20_memory.md R86, 30_encoding.md R101). -/

namespace Sys2Proof.Machine

/-- UNMAPPED_54: a bus error (R86); OFF and DATA are not used. -/
def execUnmapped54 (w : Bool) (_off : Offset) (_v : Word) (s : State) : Host.Outcome State Fault Refusal :=
  .next (raiseBusError s w)

/-- UNMAPPED_58: a bus error (R86); OFF and DATA are not used. -/
def execUnmapped58 (w : Bool) (_off : Offset) (_v : Word) (s : State) : Host.Outcome State Fault Refusal :=
  .next (raiseBusError s w)

/-- UNMAPPED_60: a bus error (R86); OFF and DATA are not used. -/
def execUnmapped60 (w : Bool) (_off : Offset) (_v : Word) (s : State) : Host.Outcome State Fault Refusal :=
  .next (raiseBusError s w)

/-- UNMAPPED_80: a bus error (R86); OFF and DATA are not used. -/
def execUnmapped80 (w : Bool) (_off : Offset) (_v : Word) (s : State) : Host.Outcome State Fault Refusal :=
  .next (raiseBusError s w)

end Sys2Proof.Machine
end

