-- ==== Sys2Proof/Machine/Dispatch.lean ====
section
/-! DEFINITION. The dispatch of instructions to their meanings (44_host_control.md R290): one arm for each row of
spec/opcode_table.json. -/

namespace Sys2Proof.Machine

def exec (i : Instr) (s : State) : Host.Outcome State Fault Refusal :=
  match i with
  | .nop => Sys2Proof.Machine.execNop s
  | .rxCommit => Sys2Proof.Machine.execRxCommit s
  | .rxClear => Sys2Proof.Machine.execRxClear s
  | .txClear => Sys2Proof.Machine.execTxClear s
  | .setXp => Sys2Proof.Machine.execSetXp s
  | .mxGet => Sys2Proof.Machine.execMxGet s
  | .mxSet => Sys2Proof.Machine.execMxSet s
  | .mxClear => Sys2Proof.Machine.execMxClear s
  | .crcInit => Sys2Proof.Machine.execCrcInit s
  | .linkDown => Sys2Proof.Machine.execLinkDown s
  | .cmdIllegal v => Sys2Proof.Machine.execCmdIllegal v s
  | .rdCtrl => Sys2Proof.Machine.execRdCtrl s
  | .rdStatus => Sys2Proof.Machine.execRdStatus s
  | .rdCmd => Sys2Proof.Machine.execRdCmd s
  | .rdArgLevel => Sys2Proof.Machine.execRdArgLevel s
  | .rdArgDest => Sys2Proof.Machine.execRdArgDest s
  | .rdArgSrc => Sys2Proof.Machine.execRdArgSrc s
  | .rdResult => Sys2Proof.Machine.execRdResult s
  | .rdTbusAddr => Sys2Proof.Machine.execRdTbusAddr s
  | .rdRxData => Sys2Proof.Machine.execRdRxData s
  | .rdRxCount => Sys2Proof.Machine.execRdRxCount s
  | .rdTxData => Sys2Proof.Machine.execRdTxData s
  | .rdTxCount => Sys2Proof.Machine.execRdTxCount s
  | .rdCrcValue => Sys2Proof.Machine.execRdCrcValue s
  | .rdCrcData => Sys2Proof.Machine.execRdCrcData s
  | .rdCrcSwap => Sys2Proof.Machine.execRdCrcSwap s
  | .rdLastEvent => Sys2Proof.Machine.execRdLastEvent s
  | .rdCfgLevels => Sys2Proof.Machine.execRdCfgLevels s
  | .rdCfgOutputs => Sys2Proof.Machine.execRdCfgOutputs s
  | .rdCfgInputs => Sys2Proof.Machine.execRdCfgInputs s
  | .rdCfgRxmax => Sys2Proof.Machine.execRdCfgRxmax s
  | .rdCfgTxmax => Sys2Proof.Machine.execRdCfgTxmax s
  | .wrCtrl v => Sys2Proof.Machine.execWrCtrl v s
  | .wrStatus v => Sys2Proof.Machine.execWrStatus v s
  | .wrArgLevel v => Sys2Proof.Machine.execWrArgLevel v s
  | .wrArgDest v => Sys2Proof.Machine.execWrArgDest v s
  | .wrArgSrc v => Sys2Proof.Machine.execWrArgSrc v s
  | .wrResult v => Sys2Proof.Machine.execWrResult v s
  | .wrTbusAddr v => Sys2Proof.Machine.execWrTbusAddr v s
  | .wrRxData v => Sys2Proof.Machine.execWrRxData v s
  | .wrRxCount v => Sys2Proof.Machine.execWrRxCount v s
  | .wrTxData v => Sys2Proof.Machine.execWrTxData v s
  | .wrTxCount v => Sys2Proof.Machine.execWrTxCount v s
  | .wrCrcValue v => Sys2Proof.Machine.execWrCrcValue v s
  | .wrCrcData v => Sys2Proof.Machine.execWrCrcData v s
  | .wrCrcSwap v => Sys2Proof.Machine.execWrCrcSwap v s
  | .wrLastEvent v => Sys2Proof.Machine.execWrLastEvent v s
  | .wrCfgLevels v => Sys2Proof.Machine.execWrCfgLevels v s
  | .wrCfgOutputs v => Sys2Proof.Machine.execWrCfgOutputs v s
  | .wrCfgInputs v => Sys2Proof.Machine.execWrCfgInputs v s
  | .wrCfgRxmax v => Sys2Proof.Machine.execWrCfgRxmax v s
  | .wrCfgTxmax v => Sys2Proof.Machine.execWrCfgTxmax v s
  | .unmapped54 w off v => Sys2Proof.Machine.execUnmapped54 w off v s
  | .unmapped58 w off v => Sys2Proof.Machine.execUnmapped58 w off v s
  | .unmapped60 w off v => Sys2Proof.Machine.execUnmapped60 w off v s
  | .unmapped80 w off v => Sys2Proof.Machine.execUnmapped80 w off v s

end Sys2Proof.Machine
end

