-- ==== Sys2Proof/WellFormed.lean ====
section
/-! DEFINITION. When an instruction is the reading of an access word (30_encoding.md R101, R111): the operand checks that
the types of `Instr` do not make by themselves. -/

namespace Sys2Proof

/-- A value whose write to CMD is CMD_ILLEGAL: bits 31:8 are not 0, or the opcode is 0x0A or above (R111, R306). -/
abbrev illegalCmdValue (v : Word) : Prop :=
  v.extractLsb' 8 24 ≠ 0#24 ∨ 0x0A#8 ≤ v.extractLsb' 0 8

/-- The operands of an UNMAPPED row: the offset lies in the row (`mask`, `pattern` on OFF) and is aligned, since a
misaligned access has no access word, and a read carries no DATA (R101). -/
abbrev unmappedOperands (mask pattern : Offset) (w : Bool) (off : Offset) (v : Word) : Prop :=
  off &&& mask = pattern ∧ off &&& 0x03#8 = 0#8 ∧ (w = false → v = 0#32)

/-- The check of an instruction's operands. -/
def isWellFormed : Instr → Bool
  | .cmdIllegal v => decide (illegalCmdValue v)
  | .unmapped54 w off v => decide (unmappedOperands 0xFC#8 0x54#8 w off v)
  | .unmapped58 w off v => decide (unmappedOperands 0xF8#8 0x58#8 w off v)
  | .unmapped60 w off v => decide (unmappedOperands 0xE0#8 0x60#8 w off v)
  | .unmapped80 w off v => decide (unmappedOperands 0x80#8 0x80#8 w off v)
  | .nop => true
  | .rxCommit => true
  | .rxClear => true
  | .txClear => true
  | .setXp => true
  | .mxGet => true
  | .mxSet => true
  | .mxClear => true
  | .crcInit => true
  | .linkDown => true
  | .rdCtrl => true
  | .rdStatus => true
  | .rdCmd => true
  | .rdArgLevel => true
  | .rdArgDest => true
  | .rdArgSrc => true
  | .rdResult => true
  | .rdTbusAddr => true
  | .rdRxData => true
  | .rdRxCount => true
  | .rdTxData => true
  | .rdTxCount => true
  | .rdCrcValue => true
  | .rdCrcData => true
  | .rdCrcSwap => true
  | .rdLastEvent => true
  | .rdCfgLevels => true
  | .rdCfgOutputs => true
  | .rdCfgInputs => true
  | .rdCfgRxmax => true
  | .rdCfgTxmax => true
  | .wrCtrl _ => true
  | .wrStatus _ => true
  | .wrArgLevel _ => true
  | .wrArgDest _ => true
  | .wrArgSrc _ => true
  | .wrResult _ => true
  | .wrTbusAddr _ => true
  | .wrRxData _ => true
  | .wrRxCount _ => true
  | .wrTxData _ => true
  | .wrTxCount _ => true
  | .wrCrcValue _ => true
  | .wrCrcData _ => true
  | .wrCrcSwap _ => true
  | .wrLastEvent _ => true
  | .wrCfgLevels _ => true
  | .wrCfgOutputs _ => true
  | .wrCfgInputs _ => true
  | .wrCfgRxmax _ => true
  | .wrCfgTxmax _ => true

/-- The well-formed instructions: those some access word stands for (R101). -/
abbrev WellFormed (i : Instr) : Prop := isWellFormed i = true

end Sys2Proof
end

