-- ==== Sys2Proof/Decode.lean ====
section
/-! DEFINITION. The host access encoding of 30_encoding.md: access words (R101), command words (R102, R110), the decoder,
total on 41-bit words and rejecting by name, then the encoder, and the rows of spec/opcode_table.json as match and mask. -/

namespace Sys2Proof

/-- Why a 41-bit value is no instruction. -/
inductive DecodeError
  /-- The offset is misaligned below 0x54: such an access has no access word and no row matches (R85, R101). -/
  | misaligned
  /-- The number has a bit above bit 40: it is no 41-bit value (R101). -/
  | tooWide
  deriving DecidableEq, Repr

/-- The byte offset of a register (R33). -/
def Reg.offset : Reg → Offset
  | .ctrl => 0x00#8
  | .status => 0x04#8
  | .cmd => 0x08#8
  | .argLevel => 0x0C#8
  | .argDest => 0x10#8
  | .argSrc => 0x14#8
  | .result => 0x18#8
  | .tbusAddr => 0x1C#8
  | .rxData => 0x20#8
  | .rxCount => 0x24#8
  | .txData => 0x28#8
  | .txCount => 0x2C#8
  | .crcValue => 0x30#8
  | .crcData => 0x34#8
  | .crcSwap => 0x38#8
  | .lastEvent => 0x3C#8
  | .cfgLevels => 0x40#8
  | .cfgOutputs => 0x44#8
  | .cfgInputs => 0x48#8
  | .cfgRxmax => 0x4C#8
  | .cfgTxmax => 0x50#8

/-- The register at a byte offset, `none` at an offset that is no register's (R33). -/
def regAt (off : Offset) : Option Reg :=
  match off.toNat with
  | 0x00 => some .ctrl
  | 0x04 => some .status
  | 0x08 => some .cmd
  | 0x0C => some .argLevel
  | 0x10 => some .argDest
  | 0x14 => some .argSrc
  | 0x18 => some .result
  | 0x1C => some .tbusAddr
  | 0x20 => some .rxData
  | 0x24 => some .rxCount
  | 0x28 => some .txData
  | 0x2C => some .txCount
  | 0x30 => some .crcValue
  | 0x34 => some .crcData
  | 0x38 => some .crcSwap
  | 0x3C => some .lastEvent
  | 0x40 => some .cfgLevels
  | 0x44 => some .cfgOutputs
  | 0x48 => some .cfgInputs
  | 0x4C => some .cfgRxmax
  | 0x50 => some .cfgTxmax
  | _ => none

/-- The opcode of a command (R110). -/
def Cmd.opcode : Cmd → Byte
  | .nop => 0x00#8
  | .rxCommit => 0x01#8
  | .rxClear => 0x02#8
  | .txClear => 0x03#8
  | .setXp => 0x04#8
  | .mxGet => 0x05#8
  | .mxSet => 0x06#8
  | .mxClear => 0x07#8
  | .crcInit => 0x08#8
  | .linkDown => 0x09#8

/-- The 41-bit access word with the fields W, OFF and DATA (R101). -/
def accessWord (w : Bool) (off : Offset) (v : Word) : AccessWord :=
  BitVec.ofBool w ++ off ++ v

/-- The field W, bit 40: 1 for a write (R101). -/
def fieldW (a : AccessWord) : Bool := a.getLsbD 40

/-- The field OFF, bits 39:32 (R101). -/
def fieldOff (a : AccessWord) : Offset := a.extractLsb' 32 8

/-- The field DATA, bits 31:0 (R101). -/
def fieldData (a : AccessWord) : Word := a.extractLsb' 0 32

/-- A 41-bit value that is the access word of some aligned 32-bit access: OFF is a multiple of 4, and the DATA of a read
is 0 (R101). -/
abbrev isAccessWord (a : AccessWord) : Prop :=
  fieldOff a &&& 0x03#8 = 0#8 ∧ (fieldW a = false → fieldData a = 0#32)

/-- The command a write of `v` to CMD issues: the ten opcodes with bits 31:8 zero, CMD_ILLEGAL otherwise (R110, R111,
R295). -/
def decodeCmd (v : Word) : Instr :=
  match v.toNat with
  | 0x00 => .nop
  | 0x01 => .rxCommit
  | 0x02 => .rxClear
  | 0x03 => .txClear
  | 0x04 => .setXp
  | 0x05 => .mxGet
  | 0x06 => .mxSet
  | 0x07 => .mxClear
  | 0x08 => .crcInit
  | 0x09 => .linkDown
  | _ => .cmdIllegal v

/-- The instruction a read of a register is (R290). -/
def decodeRead : Reg → Instr
  | .ctrl => .rdCtrl
  | .status => .rdStatus
  | .cmd => .rdCmd
  | .argLevel => .rdArgLevel
  | .argDest => .rdArgDest
  | .argSrc => .rdArgSrc
  | .result => .rdResult
  | .tbusAddr => .rdTbusAddr
  | .rxData => .rdRxData
  | .rxCount => .rdRxCount
  | .txData => .rdTxData
  | .txCount => .rdTxCount
  | .crcValue => .rdCrcValue
  | .crcData => .rdCrcData
  | .crcSwap => .rdCrcSwap
  | .lastEvent => .rdLastEvent
  | .cfgLevels => .rdCfgLevels
  | .cfgOutputs => .rdCfgOutputs
  | .cfgInputs => .rdCfgInputs
  | .cfgRxmax => .rdCfgRxmax
  | .cfgTxmax => .rdCfgTxmax

/-- The instruction a write of `v` to a register is (R290). -/
def decodeWrite (r : Reg) (v : Word) : Instr :=
  match r with
  | .ctrl => .wrCtrl v
  | .status => .wrStatus v
  | .cmd => decodeCmd v
  | .argLevel => .wrArgLevel v
  | .argDest => .wrArgDest v
  | .argSrc => .wrArgSrc v
  | .result => .wrResult v
  | .tbusAddr => .wrTbusAddr v
  | .rxData => .wrRxData v
  | .rxCount => .wrRxCount v
  | .txData => .wrTxData v
  | .txCount => .wrTxCount v
  | .crcValue => .wrCrcValue v
  | .crcData => .wrCrcData v
  | .crcSwap => .wrCrcSwap v
  | .lastEvent => .wrLastEvent v
  | .cfgLevels => .wrCfgLevels v
  | .cfgOutputs => .wrCfgOutputs v
  | .cfgInputs => .wrCfgInputs v
  | .cfgRxmax => .wrCfgRxmax v
  | .cfgTxmax => .wrCfgTxmax v

/-- The UNMAPPED row an offset lies in (R101); an offset of no row is misaligned and below 0x54. -/
def decodeUnmapped (w : Bool) (off : Offset) (v : Word) : Except DecodeError Instr :=
  if off &&& 0xFC#8 = 0x54#8 then .ok (.unmapped54 w off v)
  else if off &&& 0xF8#8 = 0x58#8 then .ok (.unmapped58 w off v)
  else if off &&& 0xE0#8 = 0x60#8 then .ok (.unmapped60 w off v)
  else if off &&& 0x80#8 = 0x80#8 then .ok (.unmapped80 w off v)
  else .error .misaligned

/-- The decoder: W and OFF choose the row (R101, R290).
DESIGN CHOICE (log entry 9), safe: a 41-bit value that is no access word (a read with DATA, a misaligned offset from 0x54 on)
decodes by the row's match and mask all the same; no access has such a word. -/
def decode (a : AccessWord) : Except DecodeError Instr :=
  match regAt (fieldOff a) with
  | some r => .ok (if fieldW a then decodeWrite r (fieldData a) else decodeRead r)
  | none => decodeUnmapped (fieldW a) (fieldOff a) (fieldData a)

/-- The decoder on any number: its bits 40..0 where no higher bit is set. -/
def decodeBits (w : Nat) : Except DecodeError Instr :=
  if w < 2 ^ 41 then decode (BitVec.ofNat 41 w) else .error .tooWide

/-- The decoder on the bits of an opcode table row; the bits above `nbits` are 0. -/
def decodeTableWord (nbits w : Nat) : Option Instr :=
  match decodeBits (w % 2 ^ nbits) with
  | .ok i => some i
  | .error _ => none

/-- The encoder: the access word of an instruction (R101, R102, R110, and the register offsets of R33). -/
def encode : Instr → AccessWord
  | .nop => accessWord true 0x08#8 0x00000000#32
  | .rxCommit => accessWord true 0x08#8 0x00000001#32
  | .rxClear => accessWord true 0x08#8 0x00000002#32
  | .txClear => accessWord true 0x08#8 0x00000003#32
  | .setXp => accessWord true 0x08#8 0x00000004#32
  | .mxGet => accessWord true 0x08#8 0x00000005#32
  | .mxSet => accessWord true 0x08#8 0x00000006#32
  | .mxClear => accessWord true 0x08#8 0x00000007#32
  | .crcInit => accessWord true 0x08#8 0x00000008#32
  | .linkDown => accessWord true 0x08#8 0x00000009#32
  | .cmdIllegal v => accessWord true 0x08#8 v
  | .rdCtrl => accessWord false 0x00#8 0#32
  | .rdStatus => accessWord false 0x04#8 0#32
  | .rdCmd => accessWord false 0x08#8 0#32
  | .rdArgLevel => accessWord false 0x0C#8 0#32
  | .rdArgDest => accessWord false 0x10#8 0#32
  | .rdArgSrc => accessWord false 0x14#8 0#32
  | .rdResult => accessWord false 0x18#8 0#32
  | .rdTbusAddr => accessWord false 0x1C#8 0#32
  | .rdRxData => accessWord false 0x20#8 0#32
  | .rdRxCount => accessWord false 0x24#8 0#32
  | .rdTxData => accessWord false 0x28#8 0#32
  | .rdTxCount => accessWord false 0x2C#8 0#32
  | .rdCrcValue => accessWord false 0x30#8 0#32
  | .rdCrcData => accessWord false 0x34#8 0#32
  | .rdCrcSwap => accessWord false 0x38#8 0#32
  | .rdLastEvent => accessWord false 0x3C#8 0#32
  | .rdCfgLevels => accessWord false 0x40#8 0#32
  | .rdCfgOutputs => accessWord false 0x44#8 0#32
  | .rdCfgInputs => accessWord false 0x48#8 0#32
  | .rdCfgRxmax => accessWord false 0x4C#8 0#32
  | .rdCfgTxmax => accessWord false 0x50#8 0#32
  | .wrCtrl v => accessWord true 0x00#8 v
  | .wrStatus v => accessWord true 0x04#8 v
  | .wrArgLevel v => accessWord true 0x0C#8 v
  | .wrArgDest v => accessWord true 0x10#8 v
  | .wrArgSrc v => accessWord true 0x14#8 v
  | .wrResult v => accessWord true 0x18#8 v
  | .wrTbusAddr v => accessWord true 0x1C#8 v
  | .wrRxData v => accessWord true 0x20#8 v
  | .wrRxCount v => accessWord true 0x24#8 v
  | .wrTxData v => accessWord true 0x28#8 v
  | .wrTxCount v => accessWord true 0x2C#8 v
  | .wrCrcValue v => accessWord true 0x30#8 v
  | .wrCrcData v => accessWord true 0x34#8 v
  | .wrCrcSwap v => accessWord true 0x38#8 v
  | .wrLastEvent v => accessWord true 0x3C#8 v
  | .wrCfgLevels v => accessWord true 0x40#8 v
  | .wrCfgOutputs v => accessWord true 0x44#8 v
  | .wrCfgInputs v => accessWord true 0x48#8 v
  | .wrCfgRxmax v => accessWord true 0x4C#8 v
  | .wrCfgTxmax v => accessWord true 0x50#8 v
  | .unmapped54 w off v => accessWord w off v
  | .unmapped58 w off v => accessWord w off v
  | .unmapped60 w off v => accessWord w off v
  | .unmapped80 w off v => accessWord w off v

/-- The `match` of the instruction's row in spec/opcode_table.json (R101). -/
def rowMatch : Instr → AccessWord
  | .nop => 0x10800000000#41
  | .rxCommit => 0x10800000001#41
  | .rxClear => 0x10800000002#41
  | .txClear => 0x10800000003#41
  | .setXp => 0x10800000004#41
  | .mxGet => 0x10800000005#41
  | .mxSet => 0x10800000006#41
  | .mxClear => 0x10800000007#41
  | .crcInit => 0x10800000008#41
  | .linkDown => 0x10800000009#41
  | .cmdIllegal _ => 0x10800000000#41
  | .rdCtrl => 0x00000000000#41
  | .rdStatus => 0x00400000000#41
  | .rdCmd => 0x00800000000#41
  | .rdArgLevel => 0x00C00000000#41
  | .rdArgDest => 0x01000000000#41
  | .rdArgSrc => 0x01400000000#41
  | .rdResult => 0x01800000000#41
  | .rdTbusAddr => 0x01C00000000#41
  | .rdRxData => 0x02000000000#41
  | .rdRxCount => 0x02400000000#41
  | .rdTxData => 0x02800000000#41
  | .rdTxCount => 0x02C00000000#41
  | .rdCrcValue => 0x03000000000#41
  | .rdCrcData => 0x03400000000#41
  | .rdCrcSwap => 0x03800000000#41
  | .rdLastEvent => 0x03C00000000#41
  | .rdCfgLevels => 0x04000000000#41
  | .rdCfgOutputs => 0x04400000000#41
  | .rdCfgInputs => 0x04800000000#41
  | .rdCfgRxmax => 0x04C00000000#41
  | .rdCfgTxmax => 0x05000000000#41
  | .wrCtrl _ => 0x10000000000#41
  | .wrStatus _ => 0x10400000000#41
  | .wrArgLevel _ => 0x10C00000000#41
  | .wrArgDest _ => 0x11000000000#41
  | .wrArgSrc _ => 0x11400000000#41
  | .wrResult _ => 0x11800000000#41
  | .wrTbusAddr _ => 0x11C00000000#41
  | .wrRxData _ => 0x12000000000#41
  | .wrRxCount _ => 0x12400000000#41
  | .wrTxData _ => 0x12800000000#41
  | .wrTxCount _ => 0x12C00000000#41
  | .wrCrcValue _ => 0x13000000000#41
  | .wrCrcData _ => 0x13400000000#41
  | .wrCrcSwap _ => 0x13800000000#41
  | .wrLastEvent _ => 0x13C00000000#41
  | .wrCfgLevels _ => 0x14000000000#41
  | .wrCfgOutputs _ => 0x14400000000#41
  | .wrCfgInputs _ => 0x14800000000#41
  | .wrCfgRxmax _ => 0x14C00000000#41
  | .wrCfgTxmax _ => 0x15000000000#41
  | .unmapped54 _ _ _ => 0x05400000000#41
  | .unmapped58 _ _ _ => 0x05800000000#41
  | .unmapped60 _ _ _ => 0x06000000000#41
  | .unmapped80 _ _ _ => 0x08000000000#41

/-- The `mask` of the instruction's row in spec/opcode_table.json (R101). -/
def rowMask : Instr → AccessWord
  | .nop => 0x1FFFFFFFFFF#41
  | .rxCommit => 0x1FFFFFFFFFF#41
  | .rxClear => 0x1FFFFFFFFFF#41
  | .txClear => 0x1FFFFFFFFFF#41
  | .setXp => 0x1FFFFFFFFFF#41
  | .mxGet => 0x1FFFFFFFFFF#41
  | .mxSet => 0x1FFFFFFFFFF#41
  | .mxClear => 0x1FFFFFFFFFF#41
  | .crcInit => 0x1FFFFFFFFFF#41
  | .linkDown => 0x1FFFFFFFFFF#41
  | .cmdIllegal _ => 0x1FF00000000#41
  | .rdCtrl => 0x1FF00000000#41
  | .rdStatus => 0x1FF00000000#41
  | .rdCmd => 0x1FF00000000#41
  | .rdArgLevel => 0x1FF00000000#41
  | .rdArgDest => 0x1FF00000000#41
  | .rdArgSrc => 0x1FF00000000#41
  | .rdResult => 0x1FF00000000#41
  | .rdTbusAddr => 0x1FF00000000#41
  | .rdRxData => 0x1FF00000000#41
  | .rdRxCount => 0x1FF00000000#41
  | .rdTxData => 0x1FF00000000#41
  | .rdTxCount => 0x1FF00000000#41
  | .rdCrcValue => 0x1FF00000000#41
  | .rdCrcData => 0x1FF00000000#41
  | .rdCrcSwap => 0x1FF00000000#41
  | .rdLastEvent => 0x1FF00000000#41
  | .rdCfgLevels => 0x1FF00000000#41
  | .rdCfgOutputs => 0x1FF00000000#41
  | .rdCfgInputs => 0x1FF00000000#41
  | .rdCfgRxmax => 0x1FF00000000#41
  | .rdCfgTxmax => 0x1FF00000000#41
  | .wrCtrl _ => 0x1FF00000000#41
  | .wrStatus _ => 0x1FF00000000#41
  | .wrArgLevel _ => 0x1FF00000000#41
  | .wrArgDest _ => 0x1FF00000000#41
  | .wrArgSrc _ => 0x1FF00000000#41
  | .wrResult _ => 0x1FF00000000#41
  | .wrTbusAddr _ => 0x1FF00000000#41
  | .wrRxData _ => 0x1FF00000000#41
  | .wrRxCount _ => 0x1FF00000000#41
  | .wrTxData _ => 0x1FF00000000#41
  | .wrTxCount _ => 0x1FF00000000#41
  | .wrCrcValue _ => 0x1FF00000000#41
  | .wrCrcData _ => 0x1FF00000000#41
  | .wrCrcSwap _ => 0x1FF00000000#41
  | .wrLastEvent _ => 0x1FF00000000#41
  | .wrCfgLevels _ => 0x1FF00000000#41
  | .wrCfgOutputs _ => 0x1FF00000000#41
  | .wrCfgInputs _ => 0x1FF00000000#41
  | .wrCfgRxmax _ => 0x1FF00000000#41
  | .wrCfgTxmax _ => 0x1FF00000000#41
  | .unmapped54 _ _ _ => 0x0FC00000000#41
  | .unmapped58 _ _ _ => 0x0F800000000#41
  | .unmapped60 _ _ _ => 0x0E000000000#41
  | .unmapped80 _ _ _ => 0x08000000000#41

/-- The access word `a` selects the row of instruction `i`: `A & mask == match` (R101). -/
abbrev selectsRow (a : AccessWord) (i : Instr) : Prop := a &&& rowMask i = rowMatch i

end Sys2Proof
end

