-- ==== Sys2Proof/Machine/Fetch.lean ====
section
/-! DEFINITION. How a host access comes to the block: the bus errors decided before decode (20_memory.md R84 to R86, R334) and
the host step an access word stands for (30_encoding.md R101). -/

namespace Sys2Proof.Machine

/-- The access is a bus error before it is decoded: it is not 4 bytes wide (R84) or misaligned (R85). The offsets from
0x54 on are bus errors too; aligned, they decode to the UNMAPPED rows, whose meaning is the bus error (R86, R101). -/
def erredBeforeDecode (off : Offset) (n : Nat) : Bool :=
  decide (n ≠ 4) || decide (off.toNat % 4 ≠ 0)

/-- The host step of a 41-bit word: the 4-byte access with its fields (R101). -/
def hostStepOf (a : AccessWord) : HostStep :=
  if fieldW a then .memWrite (fieldOff a) 4 (fieldData a) else .memRead (fieldOff a) 4

/-- The host step of the bits of an opcode table row; the bits above `nbits` and above bit 40 are dropped. -/
def hostStepOfBits (nbits w : Nat) : HostStep := hostStepOf (BitVec.ofNat 41 (w % 2 ^ nbits))

end Sys2Proof.Machine
end

