-- ==== Sys2Proof/Machine/Step.lean ====
section
/-! DEFINITION. One step of the machine: the block serves the first of the host's steps, whole (10_state.md R30, R31;
20_memory.md R90; 44_host_control.md R290). -/

namespace Sys2Proof.Machine

/-- One access served: a bus error before decode, or the instruction its access word decodes to (R86, R290). The decoder
refuses no aligned access; were it to, the access would be a bus error (R86). -/
def serveAccess (w : Bool) (off : Offset) (n : Nat) (v : Word) (s : State) : Host.Outcome State Fault Refusal :=
  if erredBeforeDecode off n then .next (raiseBusError s w)
  else
    match decode (accessWord w off v) with
    | .ok i => exec i s
    | .error _ => .next (raiseBusError s w)

/-- One step: the first pending host step is taken off the list and served. With none pending the block holds its state,
since it acts only in answer to the host (R30, R346). DESIGN CHOICE (log entry 6), safe. -/
def step (s : State) : Host.Outcome State Fault Refusal :=
  match s.pending with
  | [] => .next s
  | .rst :: rest => .next (applyReset (s.withPending rest))
  | .memRead off n :: rest => serveAccess false off n 0#32 (s.withPending rest)
  | .memWrite off n v :: rest => serveAccess true off n v (s.withPending rest)

/-- The state with the access of the opcode table word `w` put in front of the host's steps, where the next step takes
it. -/
def State.withFetchWord (s : State) (nbits w : Nat) : State :=
  s.withPending (hostStepOfBits nbits w :: s.pending)

end Sys2Proof.Machine
end

