-- ==== Sys2Proof/Machine/Assembly.lean ====
section
/-! DEFINITION. The host assembly syntax of 30_encoding.md: the accesses of each line (R113) and the expansions of the
pseudo-instructions (R114). -/

namespace Sys2Proof.Machine

/-- `rd NAME`: one 4-byte read of the register (R113). -/
def readReg (r : Reg) : HostStep := .memRead r.offset 4

/-- `wr NAME, v`: one 4-byte write of the register (R113). -/
def writeReg (r : Reg) (v : Word) : HostStep := .memWrite r.offset 4 v

/-- `cmd X`: `wr CMD, opcode(X)` (R114). -/
def issue (c : Cmd) : HostStep := writeReg .cmd (c.opcode.setWidth 32)

/-- `push [b0, ..., bn]`: one write of RX_DATA a byte, in order (R114). -/
def pushBytes (bs : List Byte) : List HostStep := bs.map fun b => writeReg .rxData (b.setWidth 32)

/-- The host steps of a line (R113, R114). -/
def expandLine : HostLine → List HostStep
  | .rd r => [readReg r]
  | .wr r v => [writeReg r v]
  | .cmd c => [issue c]
  | .push bs => pushBytes bs
  | .frame bs => pushBytes bs ++ [issue .rxCommit]
  | .pop n => List.replicate n (readReg .txData)
  | .crcbytes bs => bs.map fun b => writeReg .crcData (b.setWidth 32)
  | .setxp c d s => [writeReg .argLevel c, writeReg .argDest d, writeReg .argSrc s, issue .setXp]
  | .mxget c d => [writeReg .argLevel c, writeReg .argDest d, issue .mxGet, readReg .result]
  | .mxset c d s => [writeReg .argLevel c, writeReg .argDest d, writeReg .argSrc s, issue .mxSet]

/-- The host steps of a program, line by line (R113). -/
def expandProgram (ls : List HostLine) : List HostStep := ls.flatMap expandLine

end Sys2Proof.Machine
end

