-- ==== Sys2Proof/Safety.lean ====
section
/-! DEFINITION. What claims are stated in: the invariant of the block's state, runs of host steps, and the classes of
instructions the spec's whole-machine rules speak of. -/

namespace Sys2Proof.Machine

/-- Every listed cell of the matrix is a cell of the build, (c, d) with c < NUM_LEVELS and 1 <= d <= NUM_OUTPUTS, and
holds a source of at most NUM_INPUTS (R44, R82). -/
abbrev cellsInRange (b : Build) (m : RoutingMatrix) : Prop :=
  ∀ e ∈ m, e.1 / 131072 < b.numLevels ∧ 1 ≤ e.1 % 131072 ∧ e.1 % 131072 ≤ b.numOutputs ∧ e.2.toNat ≤ b.numInputs

/-- LAST_EVENT is a word R47 allows: KIND at most 4; REASON is a code 1..11 for KIND DROP and 0 otherwise; LEVEL is 0 but for XP
and READY, and then a level of the build; DATA is 0 but for XP and READY, and for XP a destination of the build. -/
abbrev eventOk (b : Build) (e : Word) : Prop :=
  (eventKindField e).toNat ≤ 4 ∧
  (if eventKindField e = EventKind.drop.code then
      1 ≤ (eventReasonField e).toNat ∧ (eventReasonField e).toNat ≤ 11
    else eventReasonField e = 0#4) ∧
  (if eventKindField e = EventKind.xp.code ∨ eventKindField e = EventKind.ready.code then
      (eventLevelField e).toNat < b.numLevels
    else eventLevelField e = 0#3 ∧ eventDataField e = 0#21) ∧
  (eventKindField e = EventKind.xp.code →
    1 ≤ (eventDataField e).toNat ∧ (eventDataField e).toNat ≤ b.numOutputs)

/-- The invariant of the block: a build in R8's ranges, reserved CTRL bits 0 (R34, R49), buffers within their capacities (R45,
R46), the matrix in canonical form with every cell in range (R44), RESULT a value a cell can hold (R40), and a LAST_EVENT
that R47 allows. -/
structure Inv (s : State) : Prop where
  build_wf : s.build.wf
  ctrl_reserved : s.ctrl &&& 0xFFFFF0F8#32 = 0#32
  rx_fits : s.rx.length ≤ s.build.rxMax
  tx_fits : s.tx.length ≤ s.build.txMax
  matrix_wf : RoutingMatrix.wf s.matrix
  cells_in_range : cellsInRange s.build s.matrix
  result_range : s.result.toNat ≤ s.build.numInputs
  event_ok : eventOk s.build s.lastEvent

/-- The state after serving every pending host step of `hs` in order, from `s` with those steps pending (R381): `hs.length`
steps of the machine. -/
def runHost (hs : List HostStep) (s : State) : Host.Outcome State Fault Refusal :=
  Sys2Proof.core.run hs.length (s.withPending hs)

/-- Instructions run one after the other (R90). -/
def execList : List Instr → State → Host.Outcome State Fault Refusal
  | [], s => .next s
  | i :: is, s =>
    match exec i s with
    | .next t => execList is t
    | .fault r => .fault r
    | .refused r => .refused r

/-- The state after a commit that drops its frame with the reason code `r` and sets no other error bit (R168, R169). -/
def droppedAs (s : State) (r : Nat) : State :=
  { s with rx := [], rxOvf := false, sticky := { s.sticky with errDrop := true },
           lastEvent := BitVec.ofNat 32 (r * 16 + 4), reply := .writeOk }

/-- The frame starts with the seven ASCII codes of "Welcome" (R107). -/
abbrev startsWithWelcome (f : List Byte) : Prop :=
  f.take 7 = [0x57#8, 0x65#8, 0x6C#8, 0x63#8, 0x6F#8, 0x6D#8, 0x65#8]

/-- A tagged frame as it comes to the shape check of R151: no byte lost, not a banner, the handshake done, and the tag at
bytes 7..9. -/
abbrev taggedFrame (s : State) : Prop :=
  s.rxOvf = false ∧ ¬startsWithWelcome s.rx ∧ s.hsDone = true ∧ (s.rx.drop 7).take 3 = [0x4E#8, 0x4B#8, s.build.tag2]

/-- The length byte of the frame in RX is (L - 7) mod 256, or is not checked (R161). -/
abbrev lengthByteAccepted (s : State) : Prop :=
  s.ctrl.getLsbD 1 = true → (s.rx.getD 6 0#8).toNat = (s.rx.length - 7) % 256

/-- The checksum of the frame in RX is crc16 of bytes 7..L-3, low byte first, or is not checked (R162). -/
abbrev checksumAccepted (s : State) : Prop :=
  s.ctrl.getLsbD 0 = true →
    (crc16 ((s.rx.drop 7).take (s.rx.length - 9))).toNat =
      (s.rx.getD (s.rx.length - 1) 0#8).toNat * 256 + (s.rx.getD (s.rx.length - 2) 0#8).toNat

/-- BE16 of bytes i and i + 1 of the frame in RX (R12, R163). -/
def rxField (s : State) (i : Nat) : Nat := (s.rx.getD i 0#8).toNat * 256 + (s.rx.getD (i + 1) 0#8).toNat

/-- The source of entry k of a dump in RX under R166's default decoder: BE16(e1, e2) + 1. -/
def dumpSource (s : State) (k : Nat) : Nat := rxField s (17 + 3 * k) + 1

/-- The reads of the window, RD_TX_DATA apart, which is the one read with a side effect (R87). -/
def isPureRead : Instr → Bool
  | .rdCtrl | .rdStatus | .rdCmd | .rdArgLevel | .rdArgDest | .rdArgSrc | .rdResult | .rdTbusAddr | .rdRxData | .rdRxCount
  | .rdTxCount | .rdCrcValue | .rdCrcData | .rdCrcSwap | .rdLastEvent | .rdCfgLevels | .rdCfgOutputs | .rdCfgInputs
  | .rdCfgRxmax | .rdCfgTxmax => true
  | _ => false

/-- The frame in RX, whose commit leaves `t`, writes M[c][d] (R264): an applied XP frame for (c, d), or an applied dump at
DUMP_LEVEL = c one of whose entries is for destination d. -/
abbrev commitWritesCell (c : Level) (d : Nat) (s t : State) : Prop :=
  (eventKindField t.lastEvent = EventKind.xp.code ∧ eventLevelField t.lastEvent = c ∧
    (eventDataField t.lastEvent).toNat = d) ∨
  (eventKindField t.lastEvent = EventKind.ready.code ∧ s.build.dumpLevel = c ∧
    ∃ k, k < dumpCount s.rx ∧ (dumpEntry s.build.dumpDecoder s.rx k).1 = d)

/-- The instruction, run from `s` to `t`, is one of the writes that R264 rules out between MX_SET and MX_GET of (c, d). -/
def writesCell (c : Level) (d : Nat) (s t : State) : Instr → Prop
  | .rxCommit => commitWritesCell c d s t
  | .setXp => s.ctrl.getLsbD 2 = true ∧ s.argLevel = c ∧ s.argDest.toNat = d
  | .mxSet => True
  | .mxClear => True
  | _ => False

/-- No instruction of the list, run from `s`, writes M[c][d] (R264). -/
def cellUnwritten (c : Level) (d : Nat) : List Instr → State → Prop
  | [], _ => True
  | i :: is, s => ∀ t, exec i s = .next t → ¬writesCell c d s t i ∧ cellUnwritten c d is t

end Sys2Proof.Machine
end

