-- ==== Sys2Proof/Certificates/Slice0/Obligations.lean ====
section
/-! DEFINITION. The statements for the provers, one `def Obligations.<Name> : Prop` each; OBLIGATIONS.json says of each what it
formalises. -/

open Sys2Proof Sys2Proof.Machine

/-- Decoding the access word of a well-formed instruction gives the instruction back. Cites 30_encoding.md section 2, Host accesses, 44_host_control.md section 1, Dispatch. -/
def Obligations.DecodeOfEncodeIsIdentity : Prop :=
  ∀ i : Instr, WellFormed i → decode (encode i) = .ok i

/-- Every access word of an aligned access decodes, to the one well-formed instruction it encodes. Cites 30_encoding.md section 2, Host accesses. -/
def Obligations.EveryAccessWordIsOneInstruction : Prop :=
  ∀ a : AccessWord, isAccessWord a →
    ∃ i, decode a = .ok i ∧ WellFormed i ∧ encode i = a ∧ ∀ j, WellFormed j → encode j = a → j = i

/-- Decoding follows A & mask == match: a row is decoded just when it matches, CMD_ILLEGAL just when its row matches and no other row does. Of words that are no access words it states the model's choice of log entry 9. Cites 30_encoding.md section 2, Host accesses, notes/assumptions/9.md. -/
def Obligations.DecoderFollowsMatchAndMask : Prop :=
  (∀ a i, decode a = .ok i → a &&& rowMask i = rowMatch i) ∧
  (∀ a j, (∀ v, j ≠ .cmdIllegal v) → a &&& rowMask j = rowMatch j →
    ∃ i, decode a = .ok i ∧ rowMask i = rowMask j ∧ rowMatch i = rowMatch j) ∧
  (∀ a : AccessWord,
    a &&& rowMask (.cmdIllegal (a.extractLsb' 0 32)) = rowMatch (.cmdIllegal (a.extractLsb' 0 32)) →
    (∀ j, (∀ v, j ≠ .cmdIllegal v) → a &&& rowMask j ≠ rowMatch j) →
    decode a = .ok (.cmdIllegal (a.extractLsb' 0 32)))

/-- Access words written in the spec's programs decode to their instructions. Cites 95_test_vectors.md section 4, Programs, 30_encoding.md section 2, Host accesses. -/
def Obligations.SpecAccessWordsDecode : Prop :=
  decode 0x10800000008#41 = .ok .crcInit ∧ decode 0x13400000031#41 = .ok (.wrCrcData 0x31#32) ∧
  decode 0x03000000000#41 = .ok .rdCrcValue ∧ decode 0x03800000000#41 = .ok .rdCrcSwap ∧
  decode 0x130ABCD1234#41 = .ok (.wrCrcValue 0xABCD1234#32) ∧ decode 0x10000000303#41 = .ok (.wrCtrl 0x303#32) ∧
  decode 0x02800000000#41 = .ok .rdTxData ∧ decode 0x10C00000000#41 = .ok (.wrArgLevel 0#32) ∧
  decode 0x10800000105#41 = .ok (.cmdIllegal 0x105#32)

/-- A step on an aligned 4-byte access runs the instruction its access word decodes to. Cites 44_host_control.md section 1, Dispatch, 20_memory.md section 3, Ordering and atomicity. -/
def Obligations.StepRunsDecodedInstruction : Prop :=
  ∀ (s : State) (off : Offset) (rest : List HostStep) (i : Instr), off.toNat % 4 = 0 →
    (s.pending = .memRead off 4 :: rest → decode (accessWord false off 0#32) = .ok i →
      step s = exec i { s with pending := rest }) ∧
    (∀ v, s.pending = .memWrite off 4 v :: rest → decode (accessWord true off v) = .ok i →
      step s = exec i { s with pending := rest })

/-- A step after placing an access word runs the instruction the word decodes to. Cites 30_encoding.md section 2, Host accesses, 44_host_control.md section 1, Dispatch. -/
def Obligations.FetchWordRunsItsInstruction : Prop :=
  ∀ (s : State) (a : AccessWord) (i : Instr), isAccessWord a → decode a = .ok i →
    step (s.withFetchWord 48 a.toNat) = exec i s

/-- A misaligned, wrongly sized or unmapped access sets ERR_BUS, answers an error, and does nothing else. Cites R86. -/
def Obligations.BusErrorSetsOnlyErrBus : Prop :=
  ∀ (s : State) (off : Offset) (n : Nat) (rest : List HostStep),
    (n ≠ 4 ∨ off.toNat % 4 ≠ 0 ∨ 0x54 ≤ off.toNat) →
    (s.pending = .memRead off n :: rest →
      step s = .next { s with pending := rest, sticky := { s.sticky with errBus := true }, reply := .readError 0#32 }) ∧
    (∀ v, s.pending = .memWrite off n v :: rest →
      step s = .next { s with pending := rest, sticky := { s.sticky with errBus := true }, reply := .writeError })

/-- RST puts every piece of state at its reset value. Cites R372. -/
def Obligations.ResetStepRestoresResetValues : Prop :=
  ∀ (s : State) (rest : List HostStep), s.pending = .rst :: rest →
    ∃ t, step s = .next t ∧ t.ctrl = 0x00000000#32 ∧ (∀ b, t.sticky.get b = false) ∧ t.hsDone = false ∧
      t.rx = [] ∧ t.rxOvf = false ∧ t.tx = [] ∧ t.argLevel = 0#3 ∧ t.argDest = 0#17 ∧ t.argSrc = 0#17 ∧
      t.result = 0#17 ∧ t.tbusAddr = 0xFE#8 ∧ t.crc = 0xFFFF#16 ∧ t.lastEvent = 0x00000000#32 ∧
      (∀ c d, t.cell c d = 0#17) ∧ irq t = false ∧ t.build = s.build

/-- The model's list of host steps: idle when empty, and what RST leaves of it (the model's choice). Cites 10_state.md section 1, Agents and the shape of the state, notes/assumptions/6.md, notes/assumptions/7.md, notes/assumptions/8.md. -/
def Obligations.EmptyHostListHoldsAndRstKeepsLaterSteps : Prop :=
  (∀ s : State, s.pending = [] → step s = .next s) ∧
  (∀ (s : State) (rest : List HostStep), s.pending = .rst :: rest →
    step s = .next { State.resetOf s.build with pending := rest }) ∧
  State.reset.pending = []

/-- Every step of every state answers a next state. Cites 60_exceptions.md section 1, No traps, 60_exceptions.md section 5, Trap entry and return. -/
def Obligations.StepNeverStops : Prop :=
  ∀ s : State, ∃ t, step s = .next t

/-- Every step keeps the invariant of the block. Cites 10_state.md sections 1 to 5, 00_scope.md section 7, Arithmetic, 43_matrix.md. -/
def Obligations.StepKeepsInvariant : Prop :=
  ∀ s t : State, Inv s → step s = .next t → Inv t

/-- The reset state of every build in range satisfies the invariant, and so does the machine's reset state. Cites 70_reset_and_hazards.md section 1, Reset, 00_scope.md section 4, Implementation parameters. -/
def Obligations.ResetSatisfiesInvariant : Prop :=
  (∀ b : Build, b.wf → Inv (State.resetOf b)) ∧ Inv State.reset

/-- No step changes the build parameters. Cites 10_state.md section 5, Event record and configuration, notes/assumptions/1.md. -/
def Obligations.StepKeepsBuild : Prop :=
  ∀ s t : State, step s = .next t → t.build = s.build

/-- The matrix changes only by an applied frame, SET_XP with OPT_WR, MX_SET or MX_CLEAR. Cites 10_state.md section 3, Levels and the routing matrix. -/
def Obligations.OnlyListedWritersChangeMatrix : Prop :=
  ∀ (i : Instr) (s t : State), exec i s = .next t → t.matrix ≠ s.matrix →
    (i = .rxCommit ∧ (eventKindField t.lastEvent = 2#4 ∨ eventKindField t.lastEvent = 3#4)) ∨
    (i = .setXp ∧ s.ctrl.getLsbD 2 = true) ∨ i = .mxSet ∨ i = .mxClear

/-- CTRL, the argument registers, RESULT, TBUS_ADDR, CRC and LAST_EVENT change only by their writers. Cites 10_state.md section 2, Register map, 10_state.md section 5, Event record and configuration. -/
def Obligations.RegistersHaveOnlyTheirWriters : Prop :=
  ∀ (i : Instr) (s t : State), exec i s = .next t →
    (t.ctrl ≠ s.ctrl → ∃ v, i = .wrCtrl v) ∧ (t.argLevel ≠ s.argLevel → ∃ v, i = .wrArgLevel v) ∧
    (t.argDest ≠ s.argDest → ∃ v, i = .wrArgDest v) ∧ (t.argSrc ≠ s.argSrc → ∃ v, i = .wrArgSrc v) ∧
    (t.result ≠ s.result → i = .mxGet) ∧ (t.tbusAddr ≠ s.tbusAddr → ∃ v, i = .wrTbusAddr v) ∧
    (t.crc ≠ s.crc → i = .crcInit ∨ (∃ v, i = .wrCrcValue v) ∨ ∃ v, i = .wrCrcData v) ∧
    (t.lastEvent ≠ s.lastEvent → i = .rxCommit) ∧
    (t.rx ≠ s.rx → (∃ v, i = .wrRxData v) ∨ i = .rxCommit ∨ i = .rxClear ∨ i = .linkDown)

/-- A sticky bit that is 1 becomes 0 only by a STATUS write with that bit 1. Cites 10_state.md section 2, Register map. -/
def Obligations.StickyBitsFallOnlyByWriteOneToClear : Prop :=
  ∀ (i : Instr) (s t : State) (b : StickyBit), exec i s = .next t → s.sticky.get b = true → t.sticky.get b = false →
    ∃ v, i = .wrStatus v ∧ v.getLsbD b.index = true

/-- HS_DONE rises only at a committed banner and falls only at LINK_DOWN. Cites 10_state.md section 2, Register map, 40_frame_decode.md section 2, Checks before the shape. -/
def Obligations.HandshakeFlagRisesAndFallsOnlyByRule : Prop :=
  ∀ (i : Instr) (s t : State), exec i s = .next t →
    (s.hsDone = false → t.hsDone = true → i = .rxCommit ∧ s.rxOvf = false ∧ startsWithWelcome s.rx) ∧
    (s.hsDone = true → t.hsDone = false → i = .linkDown)

/-- TX changes by a popped byte, TX_CLEAR, or one whole frame appended. Cites 10_state.md section 4, Buffers, 41_frame_encode.md. -/
def Obligations.TxTakesWholeFramesOrNothing : Prop :=
  ∀ (i : Instr) (s t : State), exec i s = .next t → t.tx ≠ s.tx →
    (i = .rdTxData ∧ t.tx = s.tx.tail) ∨ (i = .txClear ∧ t.tx = []) ∨
    (i = .rxCommit ∧ t.tx = s.tx ++ s.build.initFrame.toList ∧ t.tx.length ≤ s.build.txMax) ∨
    (i = .setXp ∧ t.tx = s.tx ++ encodeSet s.build s.argLevel s.argDest s.argSrc s.tbusAddr ∧
      t.tx.length ≤ s.build.txMax)

/-- Every read but RD_TX_DATA has no side effect. Cites 20_memory.md section 2, Access widths, alignment and byte order. -/
def Obligations.ReadsOtherThanTxDataChangeNothing : Prop :=
  ∀ (i : Instr) (s : State), isPureRead i = true → ∃ v, exec i s = .next { s with reply := .readOk v }

/-- RD_ARG_LEVEL, RD_ARG_DEST, RD_ARG_SRC, RD_RESULT, RD_TBUS_ADDR and RD_LAST_EVENT return their registers; RESULT changes only at MX_GET and reset. Cites R304, R305, R308, R310, R312, R314. -/
def Obligations.OperandAndResultReads : Prop :=
  ∀ s : State,
    exec .rdArgLevel s = .next { s with reply := .readOk (BitVec.ofNat 32 s.argLevel.toNat) } ∧
    exec .rdArgDest s = .next { s with reply := .readOk (BitVec.ofNat 32 s.argDest.toNat) } ∧
    exec .rdArgSrc s = .next { s with reply := .readOk (BitVec.ofNat 32 s.argSrc.toNat) } ∧
    exec .rdResult s = .next { s with reply := .readOk (BitVec.ofNat 32 s.result.toNat) } ∧
    exec .rdTbusAddr s = .next { s with reply := .readOk (BitVec.ofNat 32 s.tbusAddr.toNat) } ∧
    exec .rdLastEvent s = .next { s with reply := .readOk s.lastEvent } ∧
    exec .rdResult (State.resetOf s.build) = .next { State.resetOf s.build with reply := .readOk 0x00000000#32 } ∧
    ∀ t, step s = .next t → t.result ≠ s.result →
      ∃ rest, s.pending = .rst :: rest ∨ s.pending = .memWrite 0x08#8 4 0x00000005#32 :: rest

/-- The CFG_* reads return the build parameters. Cites R315, R316, R317, R318, R319. -/
def Obligations.ConfigurationReads : Prop :=
  (∀ s : State,
    exec .rdCfgLevels s = .next { s with reply := .readOk (BitVec.ofNat 32 s.build.numLevels) } ∧
    exec .rdCfgOutputs s = .next { s with reply := .readOk (BitVec.ofNat 32 s.build.numOutputs) } ∧
    exec .rdCfgInputs s = .next { s with reply := .readOk (BitVec.ofNat 32 s.build.numInputs) } ∧
    exec .rdCfgRxmax s = .next { s with reply := .readOk (BitVec.ofNat 32 s.build.rxMax) } ∧
    exec .rdCfgTxmax s = .next { s with reply := .readOk (BitVec.ofNat 32 s.build.txMax) }) ∧
  State.reset.build.numLevels = 8 ∧ State.reset.build.numOutputs = 255 ∧ State.reset.build.numInputs = 255 ∧
  State.reset.build.rxMax = 1024 ∧ State.reset.build.txMax = 64

/-- RD_CMD, RD_RX_DATA and RD_CRC_DATA return 0 and change nothing. Cites R321. -/
def Obligations.WriteOnlyRegistersReadZero : Prop :=
  ∀ s : State, exec .rdCmd s = .next { s with reply := .readOk 0x00000000#32 } ∧
    exec .rdRxData s = .next { s with reply := .readOk 0x00000000#32 } ∧
    exec .rdCrcData s = .next { s with reply := .readOk 0x00000000#32 }

/-- WR_CTRL stores v & 0x00000F07 and RD_CTRL returns CTRL & 0x00000F07. Cites R291, R292. -/
def Obligations.CtrlReadAndWrite : Prop :=
  ∀ (s : State) (v : Word),
    exec (.wrCtrl v) s = .next { s with ctrl := v &&& 0x00000F07#32, reply := .writeOk } ∧
    exec .rdCtrl s = .next { s with reply := .readOk (s.ctrl &&& 0x00000F07#32) } ∧
    irq { s with ctrl := v &&& 0x00000F07#32, reply := .writeOk } =
      ((v.getLsbD 8 && s.sticky.evHs) || (v.getLsbD 9 && s.sticky.evXp) || (v.getLsbD 10 && s.sticky.evReady) ||
        (v.getLsbD 11 && (s.sticky.errDrop || s.sticky.errBounds || s.sticky.errCmd || s.sticky.errTxOvf || s.sticky.errBus)))

/-- RD_STATUS returns HS_DONE, RX_OVF, the sticky bits and IRQ in their places, and changes nothing. Cites R293, R340. -/
def Obligations.StatusReadShowsEveryBit : Prop :=
  ∀ s : State, ∃ w, exec .rdStatus s = .next { s with reply := .readOk w } ∧
    w.getLsbD 0 = s.hsDone ∧ w.getLsbD 1 = s.rxOvf ∧ (∀ b : StickyBit, w.getLsbD b.index = s.sticky.get b) ∧
    w.getLsbD 10 =
      ((s.ctrl.getLsbD 8 && s.sticky.evHs) || (s.ctrl.getLsbD 9 && s.sticky.evXp) ||
        (s.ctrl.getLsbD 10 && s.sticky.evReady) ||
        (s.ctrl.getLsbD 11 &&
          (s.sticky.errDrop || s.sticky.errBounds || s.sticky.errCmd || s.sticky.errTxOvf || s.sticky.errBus))) ∧
    w.getLsbD 10 = irq s ∧ (∀ n, 11 ≤ n → w.getLsbD n = false) ∧ irq (State.resetOf s.build) = false

/-- RD_CRC_VALUE, RD_CRC_SWAP, RD_RX_COUNT and RD_TX_COUNT return CRC, its exchanged bytes and the buffer lengths. Cites R236, R241, R301, R302. -/
def Obligations.CrcAndCountReads : Prop :=
  ∀ s : State,
    exec .rdCrcValue s = .next { s with reply := .readOk (BitVec.ofNat 32 s.crc.toNat) } ∧
    exec .rdCrcSwap s = .next { s with reply := .readOk (BitVec.ofNat 32 (s.crc.toNat % 256 * 256 + s.crc.toNat / 256)) } ∧
    exec .rdRxCount s = .next { s with reply := .readOk (BitVec.ofNat 32 s.rx.length) } ∧
    exec .rdTxCount s = .next { s with reply := .readOk (BitVec.ofNat 32 s.tx.length) } ∧
    (s.rx.length ≤ s.build.rxMax → ∀ v, ∃ t, exec (.wrRxData v) s = .next t ∧ t.rx.length ≤ t.build.rxMax) ∧
    (s.tx = [] → 24 ≤ s.build.txMax → s.argLevel.toNat < s.build.numLevels →
      1 ≤ s.argDest.toNat → s.argDest.toNat ≤ s.build.numOutputs →
      1 ≤ s.argSrc.toNat → s.argSrc.toNat ≤ s.build.numInputs →
      ∃ t, exec .setXp s = .next t ∧ exec .rdTxCount t = .next { t with reply := .readOk 0x00000018#32 }) ∧
    (s.tx = [] → 23 ≤ s.build.txMax → s.rxOvf = false → startsWithWelcome s.rx →
      ∃ t, exec .rxCommit s = .next t ∧ exec .rdTxCount t = .next { t with reply := .readOk 0x00000017#32 })

/-- RD_TX_DATA pops the first byte of TX, or returns EMPTY and removes nothing. Cites R297. -/
def Obligations.TxDataReadPopsOrReportsEmpty : Prop :=
  ∀ s : State,
    (∀ b rest, s.tx = b :: rest →
      exec .rdTxData s = .next { s with tx := rest, reply := .readOk (BitVec.ofNat 32 b.toNat) }) ∧
    (s.tx = [] → exec .rdTxData s = .next { s with reply := .readOk 0x00000100#32 })

/-- WR_RX_DATA appends v[7:0] to RX, or sets RX_OVF when RX is full. Cites R296. -/
def Obligations.RxDataWritePushesOrOverflows : Prop :=
  ∀ (s : State) (v : Word),
    (s.rx.length < s.build.rxMax →
      exec (.wrRxData v) s = .next { s with rx := s.rx ++ [BitVec.ofNat 8 v.toNat], reply := .writeOk }) ∧
    (s.build.rxMax ≤ s.rx.length → exec (.wrRxData v) s = .next { s with rxOvf := true, reply := .writeOk })

/-- WR_STATUS clears exactly the sticky bits whose written bit is 1. Cites R294. -/
def Obligations.StatusWriteClearsWrittenBits : Prop :=
  ∀ (s : State) (v : Word), ∃ t, exec (.wrStatus v) s = .next t ∧
    (∀ b : StickyBit, t.sticky.get b = (s.sticky.get b && !v.getLsbD b.index)) ∧
    t = { s with sticky := t.sticky, reply := .writeOk }

/-- WR_ARG_LEVEL, WR_ARG_DEST, WR_ARG_SRC and WR_TBUS_ADDR store their field of the written value. Cites R307, R309, R311, R313. -/
def Obligations.OperandWritesKeepTheirBits : Prop :=
  ∀ (s : State) (v : Word),
    exec (.wrArgLevel v) s = .next { s with argLevel := v.extractLsb' 0 3, reply := .writeOk } ∧
    exec (.wrArgDest v) s = .next { s with argDest := v.extractLsb' 0 17, reply := .writeOk } ∧
    exec (.wrArgSrc v) s = .next { s with argSrc := v.extractLsb' 0 17, reply := .writeOk } ∧
    exec (.wrTbusAddr v) s = .next { s with tbusAddr := v.extractLsb' 0 8, reply := .writeOk }

/-- CRC_INIT, WR_CRC_VALUE and WR_CRC_DATA write the CRC register only. Cites R233, R234, R235. -/
def Obligations.CrcEngineWrites : Prop :=
  ∀ (s : State) (v : Word),
    exec .crcInit s = .next { s with crc := 0xFFFF#16, reply := .writeOk } ∧
    exec (.wrCrcValue v) s = .next { s with crc := v.extractLsb' 0 16, reply := .writeOk } ∧
    exec (.wrCrcData v) s = .next { s with crc := crcStep s.crc (v.extractLsb' 0 8), reply := .writeOk }

/-- The eleven writes of read-only registers change nothing. Cites R320. -/
def Obligations.ReadOnlyRegistersIgnoreWrites : Prop :=
  ∀ (i : Instr) (v : Word) (s : State),
    i ∈ [Instr.wrResult v, .wrRxCount v, .wrTxData v, .wrTxCount v, .wrCrcSwap v, .wrLastEvent v, .wrCfgLevels v,
      .wrCfgOutputs v, .wrCfgInputs v, .wrCfgRxmax v, .wrCfgTxmax v] →
    exec i s = .next { s with reply := .writeOk }

/-- NOP, RX_CLEAR, TX_CLEAR and LINK_DOWN. Cites R298, R299, R300, R303. -/
def Obligations.ControlCommandEffects : Prop :=
  ∀ s : State,
    exec .nop s = .next { s with reply := .writeOk } ∧
    exec .rxClear s = .next { s with rx := [], rxOvf := false, reply := .writeOk } ∧
    exec .txClear s = .next { s with tx := [], reply := .writeOk } ∧
    exec .linkDown s = .next { s with hsDone := false, rx := [], rxOvf := false, reply := .writeOk }

/-- Every value of CMD from 0x0A on is CMD_ILLEGAL, which sets ERR_CMD and nothing else. Cites R306. -/
def Obligations.IllegalCommandSetsErrCmd : Prop :=
  ∀ (s : State) (v : Word), (v.extractLsb' 8 24 ≠ 0#24 ∨ 0x0A ≤ (v.extractLsb' 0 8).toNat) →
    decode (accessWord true 0x08#8 v) = .ok (.cmdIllegal v) ∧
    exec (.cmdIllegal v) s = .next { s with sticky := { s.sticky with errCmd := true }, reply := .writeOk }

/-- The four UNMAPPED rows set ERR_BUS and answer an error response. Cites 20_memory.md section 2, Access widths, alignment and byte order, 30_encoding.md section 2, Host accesses. -/
def Obligations.UnmappedRowsAreBusErrors : Prop :=
  ∀ (w : Bool) (off : Offset) (v : Word) (s : State) (i : Instr),
    i ∈ [Instr.unmapped54 w off v, .unmapped58 w off v, .unmapped60 w off v, .unmapped80 w off v] →
    exec i s = .next { s with sticky := { s.sticky with errBus := true },
                              reply := if w then .writeError else .readError 0x00000000#32 }

/-- MX_GET puts the cell into RESULT, or 0 with ERR_BOUNDS when the index is out of range. Cites R261. -/
def Obligations.MxGetReadsCellOrReportsBounds : Prop :=
  ∀ s : State,
    ((s.argLevel.toNat < s.build.numLevels ∧ 1 ≤ s.argDest.toNat ∧ s.argDest.toNat ≤ s.build.numOutputs) →
      exec .mxGet s = .next { s with result := s.cell s.argLevel s.argDest.toNat, reply := .writeOk }) ∧
    ((s.build.numLevels ≤ s.argLevel.toNat ∨ s.argDest.toNat = 0 ∨ s.build.numOutputs < s.argDest.toNat) →
      exec .mxGet s =
        .next { s with result := 0#17, sticky := { s.sticky with errBounds := true }, reply := .writeOk })

/-- MX_SET writes exactly one cell, or sets ERR_BOUNDS when an operand is out of range. Cites R262. -/
def Obligations.MxSetWritesOneCellOrReportsBounds : Prop :=
  ∀ s : State, RoutingMatrix.wf s.matrix →
    ((s.argLevel.toNat < s.build.numLevels ∧ 1 ≤ s.argDest.toNat ∧ s.argDest.toNat ≤ s.build.numOutputs ∧
        s.argSrc.toNat ≤ s.build.numInputs) →
      ∃ t, exec .mxSet s = .next t ∧ t = { s with matrix := t.matrix, reply := .writeOk } ∧
        ∀ (c : Level) (d : Nat), d < 131072 →
          t.cell c d = if c = s.argLevel ∧ d = s.argDest.toNat then s.argSrc else s.cell c d) ∧
    ((s.build.numLevels ≤ s.argLevel.toNat ∨ s.argDest.toNat = 0 ∨ s.build.numOutputs < s.argDest.toNat ∨
        s.build.numInputs < s.argSrc.toNat) →
      exec .mxSet s = .next { s with sticky := { s.sticky with errBounds := true }, reply := .writeOk })

/-- MX_CLEAR sets every cell to 0 and changes nothing else. Cites R263. -/
def Obligations.MxClearEmptiesEveryCell : Prop :=
  ∀ s : State, ∃ t, exec .mxClear s = .next t ∧ (∀ c d, t.cell c d = 0#17) ∧
    t = { s with matrix := t.matrix, reply := .writeOk }

/-- MX_SET, then any instructions that do not write its cell, then MX_GET of the same cell gives the set source. Cites 43_matrix.md, 20_memory.md section 3, Ordering and atomicity. -/
def Obligations.SetThenGetReturnsTheSource : Prop :=
  ∀ (s : State) (is : List Instr), s.build.wf → RoutingMatrix.wf s.matrix →
    s.argLevel.toNat < s.build.numLevels → 1 ≤ s.argDest.toNat → s.argDest.toNat ≤ s.build.numOutputs →
    s.argSrc.toNat ≤ s.build.numInputs →
    (∀ t, exec .mxSet s = .next t → cellUnwritten s.argLevel s.argDest.toNat is t) →
    ∃ u, execList (.mxSet :: is) s = .next u ∧
      (u.argLevel = s.argLevel → u.argDest = s.argDest →
        ∃ t, exec .mxGet u = .next t ∧ t.result = s.argSrc)

/-- Two canonical matrices that read alike at every cell are equal data (the model's representation). Cites 10_state.md section 3, Levels and the routing matrix, notes/assumptions/11.md. -/
def Obligations.CanonicalMatricesReadingAlikeAreEqual : Prop :=
  ∀ m m' : RoutingMatrix, RoutingMatrix.wf m → RoutingMatrix.wf m' → (∀ k, readCell m k = readCell m' k) → m = m'

/-- encodeSet produces the 24 bytes of the set-crosspoint frame layout. Cites R103, R200. -/
def Obligations.SetXpFrameHasTheSpecLayout : Prop :=
  ∀ (b : Build) (c : Level) (d s : PublicId) (a : Byte),
    1 ≤ d.toNat → d.toNat ≤ 65536 → 1 ≤ s.toNat → s.toNat ≤ 65536 →
    ∃ (p : List Byte) (k : Half),
      p = [0x4E#8, 0x4B#8, b.tag2, a, b.cmdSet[0], b.cmdSet[1],
        BitVec.ofNat 8 ((d.toNat - 1) / 256), BitVec.ofNat 8 ((d.toNat - 1) % 256),
        BitVec.ofNat 8 ((s.toNat - 1) / 256), BitVec.ofNat 8 ((s.toNat - 1) % 256),
        0x00#8, 0x00#8, 0x00#8, BitVec.ofNat 8 (2 ^ c.toNat), 0x00#8] ∧
      k = crc16 p ∧
      encodeSet b c d s a =
        [b.txHdr[0], b.txHdr[1], b.txHdr[2], b.txHdr[3], b.txHdr[4], b.txHdr[5], 0x11#8] ++ p ++
          [BitVec.ofNat 8 (k.toNat % 256), BitVec.ofNat 8 (k.toNat / 256)]

/-- SET_XP with good operands and 24 free bytes appends its frame, and writes the cell only under OPT_WR. Cites 41_frame_encode.md, 10_state.md section 2, Register map. -/
def Obligations.SetXpAppendsOneFrame : Prop :=
  ∀ s : State, RoutingMatrix.wf s.matrix → s.argLevel.toNat < s.build.numLevels →
    1 ≤ s.argDest.toNat → s.argDest.toNat ≤ s.build.numOutputs →
    1 ≤ s.argSrc.toNat → s.argSrc.toNat ≤ s.build.numInputs → s.tx.length + 24 ≤ s.build.txMax →
    ∃ t, exec .setXp s = .next t ∧
      t = { s with tx := s.tx ++ encodeSet s.build s.argLevel s.argDest s.argSrc s.tbusAddr,
                   matrix := t.matrix, reply := .writeOk } ∧
      ∀ (c : Level) (d : Nat), d < 131072 →
        t.cell c d =
          if s.ctrl.getLsbD 2 = true ∧ c = s.argLevel ∧ d = s.argDest.toNat then s.argSrc else s.cell c d

/-- SET_XP with bad operands sets only ERR_CMD, and without room only ERR_TX_OVF. Cites 41_frame_encode.md, 60_exceptions.md section 3, Priority. -/
def Obligations.SetXpRejectionSetsOneErrorBit : Prop :=
  ∀ s : State,
    ((s.build.numLevels ≤ s.argLevel.toNat ∨ s.argDest.toNat = 0 ∨ s.build.numOutputs < s.argDest.toNat ∨
        s.argSrc.toNat = 0 ∨ s.build.numInputs < s.argSrc.toNat) →
      exec .setXp s = .next { s with sticky := { s.sticky with errCmd := true }, reply := .writeOk }) ∧
    ((s.argLevel.toNat < s.build.numLevels ∧ 1 ≤ s.argDest.toNat ∧ s.argDest.toNat ≤ s.build.numOutputs ∧
        1 ≤ s.argSrc.toNat ∧ s.argSrc.toNat ≤ s.build.numInputs ∧ s.build.txMax < s.tx.length + 24) →
      exec .setXp s = .next { s with sticky := { s.sticky with errTxOvf := true }, reply := .writeOk })

/-- With TX_MAX = 64 two undrained SET_XP frames fit and the third sets ERR_TX_OVF. Cites 70_reset_and_hazards.md section 3, Hazards. -/
def Obligations.ThirdSetXpDoesNotFitTheDefaultTx : Prop :=
  ∀ s : State, s.build.txMax = 64 → s.tx = [] → s.argLevel.toNat < s.build.numLevels →
    1 ≤ s.argDest.toNat → s.argDest.toNat ≤ s.build.numOutputs →
    1 ≤ s.argSrc.toNat → s.argSrc.toNat ≤ s.build.numInputs →
    (∃ t, execList [.setXp, .setXp] s = .next t ∧ t.tx.length = 48 ∧ t.sticky = s.sticky) ∧
    (∃ t, execList [.setXp, .setXp, .setXp] s = .next t ∧ t.tx.length = 48 ∧ t.sticky.errTxOvf = true)

/-- The CRC of a sequence followed by its own CRC, low byte first, is 0. Cites R239. -/
def Obligations.CrcResidueIsZero : Prop :=
  ∀ p : List Byte, crc16 (p ++ [(crc16 p).extractLsb' 0 8, (crc16 p).extractLsb' 8 8]) = 0x0000#16

/-- CRC_INIT and then one WR_CRC_DATA a byte leaves crc16 of the bytes in CRC, and RD_CRC_SWAP then returns it with its bytes swapped. Cites 42_crc.md section 1, The function. -/
def Obligations.CrcEngineComputesCrc16 : Prop :=
  ∀ (s : State) (vs : List Word), ∃ t,
    execList (.crcInit :: vs.map .wrCrcData) s = .next t ∧
    t = { s with crc := crc16 (vs.map fun v => v.extractLsb' 0 8), reply := .writeOk } ∧
    exec .rdCrcSwap t =
      .next { t with reply := .readOk (BitVec.ofNat 32
        ((crc16 (vs.map fun v => v.extractLsb' 0 8)).toNat % 256 * 256 +
          (crc16 (vs.map fun v => v.extractLsb' 0 8)).toNat / 256)) }

/-- RX_COMMIT and SET_XP neither read nor write the CRC register. Cites R238. -/
def Obligations.FrameCrcsIgnoreTheCrcRegister : Prop :=
  ∀ (s : State) (r : Half) (i : Instr), i = .rxCommit ∨ i = .setXp →
    ∃ t, exec i s = .next t ∧ t.crc = s.crc ∧ exec i { s with crc := r } = .next { t with crc := r }

/-- RX_COMMIT drops an overflowed, empty, unready, short or wrongly tagged frame with its reason. Cites R152, R153, R156, R157, R158. -/
def Obligations.CommitDropsBeforeTheShape : Prop :=
  ∀ s : State,
    (s.rxOvf = true → exec .rxCommit s = .next (droppedAs s 1)) ∧
    (s.rxOvf = false → s.rx = [] → exec .rxCommit s = .next (droppedAs s 2)) ∧
    (s.rxOvf = false → s.rx ≠ [] → ¬startsWithWelcome s.rx → s.hsDone = false →
      exec .rxCommit s = .next (droppedAs s 3)) ∧
    (s.rxOvf = false → s.rx ≠ [] → ¬startsWithWelcome s.rx → s.hsDone = true → s.rx.length < 10 →
      exec .rxCommit s = .next (droppedAs s 4)) ∧
    (s.rxOvf = false → ¬startsWithWelcome s.rx → s.hsDone = true → 10 ≤ s.rx.length →
      (s.rx.drop 7).take 3 ≠ [0x4E#8, 0x4B#8, s.build.tag2] → exec .rxCommit s = .next (droppedAs s 5))

/-- RX_COMMIT drops a tagged frame of a bad length, length byte or checksum with its reason, and takes any other as its shape. Cites R160, R161, R162. -/
def Obligations.CommitDropsByShapeAndChecks : Prop :=
  ∀ s : State, taggedFrame s →
    (s.rx.length < 18 → exec .rxCommit s = .next (droppedAs s 4)) ∧
    (18 ≤ s.rx.length → s.rx.length ≠ 20 → (s.rx.length - 18) % 3 ≠ 0 → exec .rxCommit s = .next (droppedAs s 6)) ∧
    ((s.rx.length = 20 ∨ (18 ≤ s.rx.length ∧ (s.rx.length - 18) % 3 = 0)) → ¬lengthByteAccepted s →
      exec .rxCommit s = .next (droppedAs s 7)) ∧
    ((s.rx.length = 20 ∨ (18 ≤ s.rx.length ∧ (s.rx.length - 18) % 3 = 0)) → lengthByteAccepted s → ¬checksumAccepted s →
      exec .rxCommit s = .next (droppedAs s 8)) ∧
    ((s.rx.length = 20 ∨ (18 ≤ s.rx.length ∧ (s.rx.length - 18) % 3 = 0)) → lengthByteAccepted s → checksumAccepted s →
      ∃ t, exec .rxCommit s = .next t ∧ eventReasonField t.lastEvent ≠ 7#4 ∧ eventReasonField t.lastEvent ≠ 8#4) ∧
    (18 ≤ s.rx.length → s.rx.length ≠ 20 → (s.rx.length - 18) % 3 = 0 → lengthByteAccepted s → checksumAccepted s →
      ∃ t, exec .rxCommit s = .next t ∧
        t.lastEvent = BitVec.ofNat 32 ((s.rx.length - 18) / 3 * 2048 + s.build.dumpLevel.toNat * 256 + 3))

/-- A committed banner appends INIT_FRAME and sets HS_DONE and EV_HS, or is dropped as TX_FULL. Cites R155. -/
def Obligations.BannerIsAnsweredOrDropped : Prop :=
  ∀ s : State, s.rxOvf = false → startsWithWelcome s.rx →
    (s.tx.length + 23 ≤ s.build.txMax →
      exec .rxCommit s =
        .next { s with rx := [], tx := s.tx ++ s.build.initFrame.toList, hsDone := true, rxOvf := false,
                       sticky := { s.sticky with evHs := true }, lastEvent := 0x00000001#32, reply := .writeOk }) ∧
    (s.build.txMax < s.tx.length + 23 →
      exec .rxCommit s =
        .next { s with rx := [], rxOvf := false, sticky := { s.sticky with errTxOvf := true, errDrop := true },
                       lastEvent := 0x000000B4#32, reply := .writeOk })

/-- A valid XP frame in range writes exactly its cell and records the event. Cites 40_frame_decode.md section 4, Applying an XP frame. -/
def Obligations.XpFrameWritesOneCell : Prop :=
  ∀ (s : State) (c : Level), RoutingMatrix.wf s.matrix → taggedFrame s → s.rx.length = 20 → lengthByteAccepted s →
    checksumAccepted s → rxField s 16 = 2 ^ c.toNat → c.toNat < s.build.numLevels →
    rxField s 12 + 1 ≤ s.build.numOutputs → rxField s 14 + 1 ≤ s.build.numInputs →
    ∃ t, exec .rxCommit s = .next t ∧
      t = { s with rx := [], rxOvf := false, matrix := t.matrix, sticky := { s.sticky with evXp := true },
                   lastEvent := BitVec.ofNat 32 ((rxField s 12 + 1) * 2048 + c.toNat * 256 + 2), reply := .writeOk } ∧
      ∀ (c' : Level) (d' : Nat), d' < 131072 →
        t.cell c' d' =
          if c' = c ∧ d' = rxField s 12 + 1 then BitVec.ofNat 17 (rxField s 14 + 1) else s.cell c' d'

/-- A valid XP frame with a bad mask is dropped as BAD_MASK, and out of range as BOUNDS with ERR_BOUNDS. Cites 40_frame_decode.md section 4, Applying an XP frame, 60_exceptions.md section 2, Causes and codes. -/
def Obligations.XpFrameRejections : Prop :=
  ∀ s : State, taggedFrame s → s.rx.length = 20 → lengthByteAccepted s → checksumAccepted s →
    ((∀ c : Level, c.toNat < s.build.numLevels → rxField s 16 ≠ 2 ^ c.toNat) →
      exec .rxCommit s = .next (droppedAs s 9)) ∧
    (∀ c : Level, c.toNat < s.build.numLevels → rxField s 16 = 2 ^ c.toNat →
      (s.build.numOutputs < rxField s 12 + 1 ∨ s.build.numInputs < rxField s 14 + 1) →
      exec .rxCommit s =
        .next { droppedAs s 10 with sticky := { s.sticky with errDrop := true, errBounds := true } })

/-- A valid dump writes exactly the cells of its entries in range, with no index drift. Cites 40_frame_decode.md section 5, Applying a dump frame, 10_state.md section 5, Event record and configuration, 00_scope.md section 7, Arithmetic, notes/assumptions/5.md. -/
def Obligations.DumpFrameWritesItsRowInPlace : Prop :=
  ∀ s : State, s.build.wf → s.build.dumpDecoder = .standard → RoutingMatrix.wf s.matrix → taggedFrame s →
    18 ≤ s.rx.length → (s.rx.length - 18) % 3 = 0 → lengthByteAccepted s → checksumAccepted s →
    ∃ t, exec .rxCommit s = .next t ∧
      t = { s with rx := [], rxOvf := false, matrix := t.matrix,
                   sticky := { s.sticky with evReady := true, errBounds := t.sticky.errBounds },
                   lastEvent := BitVec.ofNat 32 ((s.rx.length - 18) / 3 * 2048 + s.build.dumpLevel.toNat * 256 + 3),
                   reply := .writeOk } ∧
      (t.sticky.errBounds = true ↔ s.sticky.errBounds = true ∨
        ∃ k, k < (s.rx.length - 18) / 3 ∧ (s.build.numOutputs < k + 1 ∨ s.build.numInputs < dumpSource s k)) ∧
      ∀ (c : Level) (d : Nat), d < 131072 →
        t.cell c d =
          if c = s.build.dumpLevel ∧ 1 ≤ d ∧ d ≤ (s.rx.length - 18) / 3 ∧ d ≤ s.build.numOutputs ∧
              dumpSource s (d - 1) ≤ s.build.numInputs then
            BitVec.ofNat 17 (dumpSource s (d - 1))
          else s.cell c d

/-- Whatever the entry decoder, a valid dump writes only the row DUMP_LEVEL. Cites 40_frame_decode.md section 5, Applying a dump frame. -/
def Obligations.DumpWritesOnlyTheDumpLevel : Prop :=
  ∀ s : State, s.build.wf → RoutingMatrix.wf s.matrix → taggedFrame s →
    18 ≤ s.rx.length → (s.rx.length - 18) % 3 = 0 → lengthByteAccepted s → checksumAccepted s →
    ∃ t, exec .rxCommit s = .next t ∧
      t = { s with rx := [], rxOvf := false, matrix := t.matrix, sticky := t.sticky,
                   lastEvent := BitVec.ofNat 32 ((s.rx.length - 18) / 3 * 2048 + s.build.dumpLevel.toNat * 256 + 3),
                   reply := .writeOk } ∧
      t.sticky.evReady = true ∧ t.sticky.errDrop = s.sticky.errDrop ∧
      ∀ (c : Level) (d : Nat), d < 131072 → c ≠ s.build.dumpLevel → t.cell c d = s.cell c d

/-- Every RX_COMMIT empties RX, clears RX_OVF and records exactly one outcome. Cites 40_frame_decode.md section 1, The command, 40_frame_decode.md section 6, Common effects, 60_exceptions.md section 3, Priority. -/
def Obligations.CommitHasExactlyOneOutcome : Prop :=
  ∀ s : State, ∃ t, exec .rxCommit s = .next t ∧ t.rx = [] ∧ t.rxOvf = false ∧
    t.result = s.result ∧ t.crc = s.crc ∧ t.ctrl = s.ctrl ∧ t.tbusAddr = s.tbusAddr ∧
    t.argLevel = s.argLevel ∧ t.argDest = s.argDest ∧ t.argSrc = s.argSrc ∧
    ((eventKindField t.lastEvent = 1#4 ∧ t.sticky = { s.sticky with evHs := true }) ∨
      (eventKindField t.lastEvent = 2#4 ∧ t.sticky = { s.sticky with evXp := true }) ∨
      (eventKindField t.lastEvent = 3#4 ∧
        t.sticky = { s.sticky with evReady := true, errBounds := t.sticky.errBounds }) ∨
      (eventKindField t.lastEvent = 4#4 ∧
        t.sticky = { s.sticky with errDrop := true, errBounds := t.sticky.errBounds, errTxOvf := t.sticky.errTxOvf }))

/-- A dropped frame changes only RX, RX_OVF, ERR_DROP, LAST_EVENT and the one error bit of its reason. Cites 40_frame_decode.md section 6, Common effects, 60_exceptions.md section 2, Causes and codes. -/
def Obligations.DropsHaveNoPartialEffect : Prop :=
  ∀ s : State, ∃ t, exec .rxCommit s = .next t ∧
    (eventKindField t.lastEvent = 4#4 →
      1 ≤ (eventReasonField t.lastEvent).toNat ∧ (eventReasonField t.lastEvent).toNat ≤ 11 ∧
      eventLevelField t.lastEvent = 0#3 ∧ eventDataField t.lastEvent = 0#21 ∧
      t = { s with rx := [], rxOvf := false, lastEvent := t.lastEvent, reply := .writeOk,
                   sticky := { s.sticky with
                     errDrop := true
                     errBounds := s.sticky.errBounds || decide (eventReasonField t.lastEvent = 10#4)
                     errTxOvf := s.sticky.errTxOvf || decide (eventReasonField t.lastEvent = 11#4) } })

/-- Frames that differ only in bytes the decoder does not interpret have the same effect. Cites 40_frame_decode.md section 6, Common effects. -/
def Obligations.UninterpretedBytesDoNotMatter : Prop :=
  ∀ (s : State) (f g : List Byte), s.ctrl.getLsbD 0 = false → s.ctrl.getLsbD 1 = false →
    s.build.dumpDecoder = .standard → f.length = g.length → ¬startsWithWelcome f → ¬startsWithWelcome g →
    (∀ i, 7 ≤ i → i ≤ 9 → f.getD i 0#8 = g.getD i 0#8) →
    (f.length = 20 → ∀ i, 12 ≤ i → i ≤ 17 → f.getD i 0#8 = g.getD i 0#8) →
    (f.length ≠ 20 → ∀ k, k < (f.length - 18) / 3 →
      f.getD (17 + 3 * k) 0#8 = g.getD (17 + 3 * k) 0#8 ∧ f.getD (18 + 3 * k) 0#8 = g.getD (18 + 3 * k) 0#8) →
    ∃ t, exec .rxCommit { s with rx := f } = .next t ∧ exec .rxCommit { s with rx := g } = .next t

/-- An XP frame made of the fields of a SET_XP frame writes the operands of that SET_XP. Cites R205. -/
def Obligations.SetXpFieldsRoundTripThroughXpFrame : Prop :=
  ∀ (s : State) (c : Level) (d x : PublicId) (a : Byte), s.build.wf → RoutingMatrix.wf s.matrix →
    c.toNat < s.build.numLevels → 1 ≤ d.toNat → d.toNat ≤ s.build.numOutputs → 1 ≤ x.toNat → x.toNat ≤ s.build.numInputs →
    taggedFrame s → s.rx.length = 20 → lengthByteAccepted s → checksumAccepted s →
    (s.rx.drop 12).take 2 = ((encodeSet s.build c d x a).drop 13).take 2 →
    (s.rx.drop 14).take 2 = ((encodeSet s.build c d x a).drop 15).take 2 →
    (s.rx.drop 16).take 2 = ((encodeSet s.build c d x a).drop 19).take 2 →
    ∃ t, exec .rxCommit s = .next t ∧ t.sticky.evXp = true ∧
      ∀ (c' : Level) (d' : Nat), d' < 131072 →
        t.cell c' d' = if c' = c ∧ d' = d.toNat then x else s.cell c' d'

/-- Running the host line `frame bs` commits exactly the bytes bs. Cites 30_encoding.md section 5, Syntax, 20_memory.md section 2, Access widths, alignment and byte order. -/
def Obligations.FrameLinePushesThenCommits : Prop :=
  ∀ (s : State) (bs : List Byte), s.rx = [] → bs.length ≤ s.build.rxMax →
    runHost (expandLine (.frame bs)) s = exec .rxCommit { s with rx := bs, pending := [] }

/-- Running the host line `mxget c, d` returns the cell and changes only the argument registers and RESULT. Cites 30_encoding.md section 5, Syntax, 43_matrix.md. -/
def Obligations.MxGetLineReadsTheCell : Prop :=
  ∀ (s : State) (c d : Word), (c.extractLsb' 0 3).toNat < s.build.numLevels →
    1 ≤ (d.extractLsb' 0 17).toNat → (d.extractLsb' 0 17).toNat ≤ s.build.numOutputs →
    runHost (expandLine (.mxget c d)) s =
      .next { s with argLevel := c.extractLsb' 0 3, argDest := d.extractLsb' 0 17,
                     result := s.cell (c.extractLsb' 0 3) (d.extractLsb' 0 17).toNat, pending := [],
                     reply := .readOk (BitVec.ofNat 32 (s.cell (c.extractLsb' 0 3) (d.extractLsb' 0 17).toNat).toNat) }

/-- Running the host line `pop n` removes the first n bytes of TX and nothing else. Cites 30_encoding.md section 5, Syntax, 10_state.md section 4, Buffers. -/
def Obligations.PopLineDrainsTx : Prop :=
  ∀ (s : State) (n : Nat), 1 ≤ n → n ≤ s.tx.length →
    runHost (expandLine (.pop n)) s =
      .next { s with tx := s.tx.drop n, pending := [],
                     reply := .readOk (BitVec.ofNat 32 (s.tx.getD (n - 1) 0#8).toNat) }
end

