-- ==== Sys2Proof/Laws/Encoding.lean ====
section
/-! SUPPORT. The fields of an access word read back, and the word read back from its fields (R101). -/

namespace Sys2Proof

theorem wellFormed_cmdIllegal (v : Word) : WellFormed (.cmdIllegal v) ↔ illegalCmdValue v := decide_eq_true_iff

theorem wellFormed_unmapped54 (w : Bool) (off : Offset) (v : Word) :
    WellFormed (.unmapped54 w off v) ↔ unmappedOperands 0xFC#8 0x54#8 w off v := decide_eq_true_iff

theorem wellFormed_unmapped58 (w : Bool) (off : Offset) (v : Word) :
    WellFormed (.unmapped58 w off v) ↔ unmappedOperands 0xF8#8 0x58#8 w off v := decide_eq_true_iff

theorem wellFormed_unmapped60 (w : Bool) (off : Offset) (v : Word) :
    WellFormed (.unmapped60 w off v) ↔ unmappedOperands 0xE0#8 0x60#8 w off v := decide_eq_true_iff

theorem wellFormed_unmapped80 (w : Bool) (off : Offset) (v : Word) :
    WellFormed (.unmapped80 w off v) ↔ unmappedOperands 0x80#8 0x80#8 w off v := decide_eq_true_iff

/-- The bits of an access word: DATA in 31:0, OFF in 39:32, W in 40 (R101). -/
theorem accessWord_getLsbD (w : Bool) (off : Offset) (v : Word) (i : Nat) :
    (accessWord w off v).getLsbD i =
      if i < 32 then v.getLsbD i else if i < 40 then off.getLsbD (i - 32) else (decide (i = 40) && w) := by
  have h : (accessWord w off v).getLsbD i = (BitVec.ofBool w ++ off ++ v : BitVec (1 + 8 + 32)).getLsbD i := rfl
  rw [h, BitVec.getLsbD_append]
  split
  · rfl
  · rw [BitVec.getLsbD_append]
    by_cases h2 : i < 40
    · rw [if_pos h2, if_pos (by omega)]
    · rw [if_neg h2, if_neg (by omega), BitVec.getLsbD_ofBool]
      by_cases h3 : i = 40
      · simp [h3]
      · rw [decide_eq_false (by omega), decide_eq_false h3]

@[simp] theorem fieldW_accessWord (w : Bool) (off : Offset) (v : Word) : fieldW (accessWord w off v) = w := by
  rw [fieldW, accessWord_getLsbD]
  simp

@[simp] theorem fieldData_accessWord (w : Bool) (off : Offset) (v : Word) : fieldData (accessWord w off v) = v := by
  apply BitVec.eq_of_getLsbD_eq
  intro i hi
  rw [fieldData, BitVec.getLsbD_extractLsb', accessWord_getLsbD]
  simp [hi]

@[simp] theorem fieldOff_accessWord (w : Bool) (off : Offset) (v : Word) : fieldOff (accessWord w off v) = off := by
  apply BitVec.eq_of_getLsbD_eq
  intro i hi
  rw [fieldOff, BitVec.getLsbD_extractLsb', accessWord_getLsbD]
  simp [hi, show 32 + i < 40 by omega]

/-- The bitwise and of two access words is that of their fields. -/
theorem accessWord_and (w w' : Bool) (off off' : Offset) (v v' : Word) :
    accessWord w off v &&& accessWord w' off' v' = accessWord (w && w') (off &&& off') (v &&& v') := by
  apply BitVec.eq_of_getLsbD_eq
  intro i hi
  simp only [BitVec.getLsbD_and, accessWord_getLsbD]
  split
  · rfl
  · split
    · rfl
    · cases w <;> cases w' <;> simp

/-- The mask of a row that fixes W and OFF keeps them and clears DATA (R101). -/
theorem accessWord_and_rowMask (w : Bool) (off : Offset) (v : Word) :
    accessWord w off v &&& 0x1FF00000000#41 = accessWord w off 0#32 := by
  have h : 0x1FF00000000#41 = accessWord true 0xFF#8 0#32 := rfl
  rw [h, accessWord_and, Bool.and_true, BitVec.and_zero]
  congr 1
  exact BitVec.and_allOnes (w := 8)

/-- An access word is its three fields (R101). -/
theorem accessWord_fields (a : AccessWord) : accessWord (fieldW a) (fieldOff a) (fieldData a) = a := by
  apply BitVec.eq_of_getLsbD_eq
  intro i hi
  rw [accessWord_getLsbD]
  split
  · simp [fieldData, *]
  · split
    · have : i - 32 < 8 := by omega
      simp [fieldOff, this, show 32 + (i - 32) = i by omega]
    · have : i = 40 := by omega
      subst this
      rfl

/-- The decoder on a word given by its fields. -/
theorem decode_accessWord (w : Bool) (off : Offset) (v : Word) :
    decode (accessWord w off v) =
      match regAt off with
      | some r => .ok (if w then decodeWrite r v else decodeRead r)
      | none => decodeUnmapped w off v := by
  cases h : regAt off <;> simp [decode, h]

end Sys2Proof
end

