-- ==== Sys2Proof/Laws/Matrix.lean ====
section
/-! SUPPORT. The laws of the matrix store: reading after writing, the canonical form kept, the entries a write leaves, and
distinct cells having distinct numbers. -/

namespace Sys2Proof.Machine

@[simp] theorem readCell_nil (k : Nat) : readCell [] k = 0#17 := rfl

theorem readCell_cons (k' : Nat) (v' : PublicId) (m : RoutingMatrix) (k : Nat) :
    readCell ((k', v') :: m) k = if k' = k then v' else readCell m k := rfl

/-- The canonical form of a longer list, by its head and its tail. -/
theorem RoutingMatrix.wf_cons_iff (e : Nat × PublicId) (m : RoutingMatrix) :
    RoutingMatrix.wf (e :: m) ↔ (∀ x ∈ m, e.1 < x.1) ∧ e.2 ≠ 0#17 ∧ RoutingMatrix.wf m := by
  simp only [RoutingMatrix.wf, List.pairwise_cons, List.forall_mem_cons]
  tauto

theorem RoutingMatrix.wf_nil : RoutingMatrix.wf [] := ⟨List.Pairwise.nil, by simp⟩

/-- A cell number below every listed one reads 0. -/
theorem readCell_of_lt {m : RoutingMatrix} {k : Nat} (h : ∀ e ∈ m, k < e.1) : readCell m k = 0#17 := by
  induction m with
  | nil => rfl
  | cons e m ih =>
    have hk : e.1 ≠ k := Nat.ne_of_gt (h e (by simp))
    rw [readCell, if_neg hk]
    exact ih fun x hx => h x (by simp [hx])

/-- Every entry after a write is an old one or the written one, and the written value is then not 0. -/
theorem mem_writeCell {m : RoutingMatrix} {k : Nat} {v : PublicId} {e : Nat × PublicId} (h : e ∈ writeCell m k v) :
    e ∈ m ∨ (e = (k, v) ∧ v ≠ 0#17) := by
  induction m with
  | nil =>
    simp only [writeCell] at h
    split at h
    · simp at h
    · exact .inr ⟨by simpa using h, ‹_›⟩
  | cons x m ih =>
    obtain ⟨k', v'⟩ := x
    simp only [writeCell] at h
    split at h
    · split at h
      · exact .inl h
      · rcases List.mem_cons.mp h with rfl | h
        · exact .inr ⟨rfl, ‹_›⟩
        · exact .inl h
    · split at h
      · split at h
        · exact .inl (List.mem_cons_of_mem _ h)
        · rcases List.mem_cons.mp h with rfl | h
          · exact .inr ⟨rfl, ‹_›⟩
          · exact .inl (List.mem_cons_of_mem _ h)
      · rcases List.mem_cons.mp h with rfl | h
        · exact .inl (by simp)
        · rcases ih h with h | h
          · exact .inl (List.mem_cons_of_mem _ h)
          · exact .inr h

/-- A write keeps the canonical form. -/
theorem writeCell_wf {m : RoutingMatrix} (k : Nat) (v : PublicId) (h : RoutingMatrix.wf m) :
    RoutingMatrix.wf (writeCell m k v) := by
  induction m with
  | nil =>
    simp only [writeCell]
    split
    · exact RoutingMatrix.wf_nil
    · exact (RoutingMatrix.wf_cons_iff _ _).mpr ⟨by simp, ‹_›, RoutingMatrix.wf_nil⟩
  | cons x m ih =>
    obtain ⟨k', v'⟩ := x
    have ⟨hlt, hv', hm⟩ := (RoutingMatrix.wf_cons_iff _ _).mp h
    simp only [writeCell]
    split
    · split
      · exact h
      · refine (RoutingMatrix.wf_cons_iff _ _).mpr ⟨fun y hy => ?_, ‹_›, h⟩
        rcases List.mem_cons.mp hy with rfl | hy
        · exact ‹k < k'›
        · exact Nat.lt_trans ‹k < k'› (hlt y hy)
    · split
      · split
        · exact hm
        · subst k
          exact (RoutingMatrix.wf_cons_iff _ _).mpr ⟨hlt, ‹_›, hm⟩
      · refine (RoutingMatrix.wf_cons_iff _ _).mpr ⟨fun y hy => ?_, hv', ih hm⟩
        rcases mem_writeCell hy with hy | ⟨rfl, -⟩
        · exact hlt y hy
        · simp only
          omega

/-- Reading a canonical matrix after a write: the written value at the written cell, the old value elsewhere. -/
theorem readCell_writeCell {m : RoutingMatrix} (h : RoutingMatrix.wf m) (k : Nat) (v : PublicId) (j : Nat) :
    readCell (writeCell m k v) j = if j = k then v else readCell m j := by
  induction m with
  | nil =>
    simp only [writeCell]
    split
    · by_cases hj : j = k
      · rw [if_pos hj, ‹v = 0#17›, readCell_nil]
      · rw [if_neg hj]
    · rw [readCell_cons]
      by_cases hj : j = k
      · rw [if_pos hj, if_pos hj.symm]
      · rw [if_neg hj, if_neg (Ne.symm hj)]
  | cons x m ih =>
    obtain ⟨k', v'⟩ := x
    have ⟨hlt, _, hm⟩ := (RoutingMatrix.wf_cons_iff _ _).mp h
    simp only [writeCell]
    split
    · have hk : readCell ((k', v') :: m) k = 0#17 := readCell_of_lt fun e he => by
        rcases List.mem_cons.mp he with rfl | he
        · exact ‹k < k'›
        · exact Nat.lt_trans ‹k < k'› (hlt e he)
      split
      · by_cases hj : j = k
        · rw [if_pos hj, hj, hk, ‹v = 0#17›]
        · rw [if_neg hj]
      · rw [readCell_cons]
        by_cases hj : j = k
        · rw [if_pos hj, if_pos hj.symm]
        · rw [if_neg hj, if_neg (Ne.symm hj)]
    · split
      · subst k
        have hk : readCell m k' = 0#17 := readCell_of_lt hlt
        split
        · rw [readCell_cons]
          by_cases hj : j = k'
          · rw [if_pos hj, hj, hk, ‹v = 0#17›]
          · rw [if_neg hj, if_neg (Ne.symm hj)]
        · rw [readCell_cons, readCell_cons]
          by_cases hj : j = k'
          · rw [if_pos hj, if_pos hj.symm]
          · rw [if_neg hj, if_neg (Ne.symm hj), if_neg (Ne.symm hj)]
      · rw [readCell_cons, readCell_cons, ih hm]
        by_cases hj : j = k
        · rw [if_pos hj, if_neg (by omega), if_pos hj]
        · rw [if_neg hj, if_neg hj]

/-- Cells in the range R82 gives the matrix have one number each. -/
theorem cellNumber_inj {c c' : Level} {d d' : Nat} (hd : d < 131072) (hd' : d' < 131072)
    (h : cellNumber c d = cellNumber c' d') : c = c' ∧ d = d' := by
  simp only [cellNumber] at h
  exact ⟨BitVec.eq_of_toNat_eq (by omega), by omega⟩

theorem cellNumber_div (c : Level) {d : Nat} (hd : d < 131072) : cellNumber c d / 131072 = c.toNat := by
  simp only [cellNumber]; omega

theorem cellNumber_mod (c : Level) {d : Nat} (hd : d < 131072) : cellNumber c d % 131072 = d := by
  simp only [cellNumber]; omega

/-- `M[c'][d']` after `M[c][d] <- v`. -/
theorem setCell_cell {s : State} (h : RoutingMatrix.wf s.matrix) (c c' : Level) (d d' : Nat) (v : PublicId)
    (hd : d < 131072) (hd' : d' < 131072) :
    (setCell s c d v).cell c' d' = if c' = c ∧ d' = d then v else s.cell c' d' := by
  simp only [setCell, State.cell, State.withMatrix, readCell_writeCell h]
  by_cases hk : c' = c ∧ d' = d
  · rw [if_pos hk, hk.1, hk.2, if_pos rfl]
  · rw [if_neg hk, if_neg fun e => hk (cellNumber_inj hd' hd e)]

end Sys2Proof.Machine
end

