-- ==== Sys2Proof/Laws/State.lean ====
section
/-! SUPPORT. What each field update of the state leaves at each field: one lemma per field per update, true by rfl, so that
no proof unfolds a record update. -/

namespace Sys2Proof.Machine

@[simp] theorem withCtrl_build (s : State) (v : Word) : (s.withCtrl v).build = s.build := rfl
@[simp] theorem withCtrl_ctrl (s : State) (v : Word) : (s.withCtrl v).ctrl = v := rfl
@[simp] theorem withCtrl_sticky (s : State) (v : Word) : (s.withCtrl v).sticky = s.sticky := rfl
@[simp] theorem withCtrl_hsDone (s : State) (v : Word) : (s.withCtrl v).hsDone = s.hsDone := rfl
@[simp] theorem withCtrl_rxOvf (s : State) (v : Word) : (s.withCtrl v).rxOvf = s.rxOvf := rfl
@[simp] theorem withCtrl_argLevel (s : State) (v : Word) : (s.withCtrl v).argLevel = s.argLevel := rfl
@[simp] theorem withCtrl_argDest (s : State) (v : Word) : (s.withCtrl v).argDest = s.argDest := rfl
@[simp] theorem withCtrl_argSrc (s : State) (v : Word) : (s.withCtrl v).argSrc = s.argSrc := rfl
@[simp] theorem withCtrl_result (s : State) (v : Word) : (s.withCtrl v).result = s.result := rfl
@[simp] theorem withCtrl_tbusAddr (s : State) (v : Word) : (s.withCtrl v).tbusAddr = s.tbusAddr := rfl
@[simp] theorem withCtrl_crc (s : State) (v : Word) : (s.withCtrl v).crc = s.crc := rfl
@[simp] theorem withCtrl_lastEvent (s : State) (v : Word) : (s.withCtrl v).lastEvent = s.lastEvent := rfl
@[simp] theorem withCtrl_matrix (s : State) (v : Word) : (s.withCtrl v).matrix = s.matrix := rfl
@[simp] theorem withCtrl_rx (s : State) (v : Word) : (s.withCtrl v).rx = s.rx := rfl
@[simp] theorem withCtrl_tx (s : State) (v : Word) : (s.withCtrl v).tx = s.tx := rfl
@[simp] theorem withCtrl_reply (s : State) (v : Word) : (s.withCtrl v).reply = s.reply := rfl
@[simp] theorem withCtrl_pending (s : State) (v : Word) : (s.withCtrl v).pending = s.pending := rfl

@[simp] theorem withSticky_build (s : State) (v : Sticky) : (s.withSticky v).build = s.build := rfl
@[simp] theorem withSticky_ctrl (s : State) (v : Sticky) : (s.withSticky v).ctrl = s.ctrl := rfl
@[simp] theorem withSticky_sticky (s : State) (v : Sticky) : (s.withSticky v).sticky = v := rfl
@[simp] theorem withSticky_hsDone (s : State) (v : Sticky) : (s.withSticky v).hsDone = s.hsDone := rfl
@[simp] theorem withSticky_rxOvf (s : State) (v : Sticky) : (s.withSticky v).rxOvf = s.rxOvf := rfl
@[simp] theorem withSticky_argLevel (s : State) (v : Sticky) : (s.withSticky v).argLevel = s.argLevel := rfl
@[simp] theorem withSticky_argDest (s : State) (v : Sticky) : (s.withSticky v).argDest = s.argDest := rfl
@[simp] theorem withSticky_argSrc (s : State) (v : Sticky) : (s.withSticky v).argSrc = s.argSrc := rfl
@[simp] theorem withSticky_result (s : State) (v : Sticky) : (s.withSticky v).result = s.result := rfl
@[simp] theorem withSticky_tbusAddr (s : State) (v : Sticky) : (s.withSticky v).tbusAddr = s.tbusAddr := rfl
@[simp] theorem withSticky_crc (s : State) (v : Sticky) : (s.withSticky v).crc = s.crc := rfl
@[simp] theorem withSticky_lastEvent (s : State) (v : Sticky) : (s.withSticky v).lastEvent = s.lastEvent := rfl
@[simp] theorem withSticky_matrix (s : State) (v : Sticky) : (s.withSticky v).matrix = s.matrix := rfl
@[simp] theorem withSticky_rx (s : State) (v : Sticky) : (s.withSticky v).rx = s.rx := rfl
@[simp] theorem withSticky_tx (s : State) (v : Sticky) : (s.withSticky v).tx = s.tx := rfl
@[simp] theorem withSticky_reply (s : State) (v : Sticky) : (s.withSticky v).reply = s.reply := rfl
@[simp] theorem withSticky_pending (s : State) (v : Sticky) : (s.withSticky v).pending = s.pending := rfl

@[simp] theorem withHsDone_build (s : State) (v : Bool) : (s.withHsDone v).build = s.build := rfl
@[simp] theorem withHsDone_ctrl (s : State) (v : Bool) : (s.withHsDone v).ctrl = s.ctrl := rfl
@[simp] theorem withHsDone_sticky (s : State) (v : Bool) : (s.withHsDone v).sticky = s.sticky := rfl
@[simp] theorem withHsDone_hsDone (s : State) (v : Bool) : (s.withHsDone v).hsDone = v := rfl
@[simp] theorem withHsDone_rxOvf (s : State) (v : Bool) : (s.withHsDone v).rxOvf = s.rxOvf := rfl
@[simp] theorem withHsDone_argLevel (s : State) (v : Bool) : (s.withHsDone v).argLevel = s.argLevel := rfl
@[simp] theorem withHsDone_argDest (s : State) (v : Bool) : (s.withHsDone v).argDest = s.argDest := rfl
@[simp] theorem withHsDone_argSrc (s : State) (v : Bool) : (s.withHsDone v).argSrc = s.argSrc := rfl
@[simp] theorem withHsDone_result (s : State) (v : Bool) : (s.withHsDone v).result = s.result := rfl
@[simp] theorem withHsDone_tbusAddr (s : State) (v : Bool) : (s.withHsDone v).tbusAddr = s.tbusAddr := rfl
@[simp] theorem withHsDone_crc (s : State) (v : Bool) : (s.withHsDone v).crc = s.crc := rfl
@[simp] theorem withHsDone_lastEvent (s : State) (v : Bool) : (s.withHsDone v).lastEvent = s.lastEvent := rfl
@[simp] theorem withHsDone_matrix (s : State) (v : Bool) : (s.withHsDone v).matrix = s.matrix := rfl
@[simp] theorem withHsDone_rx (s : State) (v : Bool) : (s.withHsDone v).rx = s.rx := rfl
@[simp] theorem withHsDone_tx (s : State) (v : Bool) : (s.withHsDone v).tx = s.tx := rfl
@[simp] theorem withHsDone_reply (s : State) (v : Bool) : (s.withHsDone v).reply = s.reply := rfl
@[simp] theorem withHsDone_pending (s : State) (v : Bool) : (s.withHsDone v).pending = s.pending := rfl

@[simp] theorem withRxOvf_build (s : State) (v : Bool) : (s.withRxOvf v).build = s.build := rfl
@[simp] theorem withRxOvf_ctrl (s : State) (v : Bool) : (s.withRxOvf v).ctrl = s.ctrl := rfl
@[simp] theorem withRxOvf_sticky (s : State) (v : Bool) : (s.withRxOvf v).sticky = s.sticky := rfl
@[simp] theorem withRxOvf_hsDone (s : State) (v : Bool) : (s.withRxOvf v).hsDone = s.hsDone := rfl
@[simp] theorem withRxOvf_rxOvf (s : State) (v : Bool) : (s.withRxOvf v).rxOvf = v := rfl
@[simp] theorem withRxOvf_argLevel (s : State) (v : Bool) : (s.withRxOvf v).argLevel = s.argLevel := rfl
@[simp] theorem withRxOvf_argDest (s : State) (v : Bool) : (s.withRxOvf v).argDest = s.argDest := rfl
@[simp] theorem withRxOvf_argSrc (s : State) (v : Bool) : (s.withRxOvf v).argSrc = s.argSrc := rfl
@[simp] theorem withRxOvf_result (s : State) (v : Bool) : (s.withRxOvf v).result = s.result := rfl
@[simp] theorem withRxOvf_tbusAddr (s : State) (v : Bool) : (s.withRxOvf v).tbusAddr = s.tbusAddr := rfl
@[simp] theorem withRxOvf_crc (s : State) (v : Bool) : (s.withRxOvf v).crc = s.crc := rfl
@[simp] theorem withRxOvf_lastEvent (s : State) (v : Bool) : (s.withRxOvf v).lastEvent = s.lastEvent := rfl
@[simp] theorem withRxOvf_matrix (s : State) (v : Bool) : (s.withRxOvf v).matrix = s.matrix := rfl
@[simp] theorem withRxOvf_rx (s : State) (v : Bool) : (s.withRxOvf v).rx = s.rx := rfl
@[simp] theorem withRxOvf_tx (s : State) (v : Bool) : (s.withRxOvf v).tx = s.tx := rfl
@[simp] theorem withRxOvf_reply (s : State) (v : Bool) : (s.withRxOvf v).reply = s.reply := rfl
@[simp] theorem withRxOvf_pending (s : State) (v : Bool) : (s.withRxOvf v).pending = s.pending := rfl

@[simp] theorem withArgLevel_build (s : State) (v : Level) : (s.withArgLevel v).build = s.build := rfl
@[simp] theorem withArgLevel_ctrl (s : State) (v : Level) : (s.withArgLevel v).ctrl = s.ctrl := rfl
@[simp] theorem withArgLevel_sticky (s : State) (v : Level) : (s.withArgLevel v).sticky = s.sticky := rfl
@[simp] theorem withArgLevel_hsDone (s : State) (v : Level) : (s.withArgLevel v).hsDone = s.hsDone := rfl
@[simp] theorem withArgLevel_rxOvf (s : State) (v : Level) : (s.withArgLevel v).rxOvf = s.rxOvf := rfl
@[simp] theorem withArgLevel_argLevel (s : State) (v : Level) : (s.withArgLevel v).argLevel = v := rfl
@[simp] theorem withArgLevel_argDest (s : State) (v : Level) : (s.withArgLevel v).argDest = s.argDest := rfl
@[simp] theorem withArgLevel_argSrc (s : State) (v : Level) : (s.withArgLevel v).argSrc = s.argSrc := rfl
@[simp] theorem withArgLevel_result (s : State) (v : Level) : (s.withArgLevel v).result = s.result := rfl
@[simp] theorem withArgLevel_tbusAddr (s : State) (v : Level) : (s.withArgLevel v).tbusAddr = s.tbusAddr := rfl
@[simp] theorem withArgLevel_crc (s : State) (v : Level) : (s.withArgLevel v).crc = s.crc := rfl
@[simp] theorem withArgLevel_lastEvent (s : State) (v : Level) : (s.withArgLevel v).lastEvent = s.lastEvent := rfl
@[simp] theorem withArgLevel_matrix (s : State) (v : Level) : (s.withArgLevel v).matrix = s.matrix := rfl
@[simp] theorem withArgLevel_rx (s : State) (v : Level) : (s.withArgLevel v).rx = s.rx := rfl
@[simp] theorem withArgLevel_tx (s : State) (v : Level) : (s.withArgLevel v).tx = s.tx := rfl
@[simp] theorem withArgLevel_reply (s : State) (v : Level) : (s.withArgLevel v).reply = s.reply := rfl
@[simp] theorem withArgLevel_pending (s : State) (v : Level) : (s.withArgLevel v).pending = s.pending := rfl

@[simp] theorem withArgDest_build (s : State) (v : PublicId) : (s.withArgDest v).build = s.build := rfl
@[simp] theorem withArgDest_ctrl (s : State) (v : PublicId) : (s.withArgDest v).ctrl = s.ctrl := rfl
@[simp] theorem withArgDest_sticky (s : State) (v : PublicId) : (s.withArgDest v).sticky = s.sticky := rfl
@[simp] theorem withArgDest_hsDone (s : State) (v : PublicId) : (s.withArgDest v).hsDone = s.hsDone := rfl
@[simp] theorem withArgDest_rxOvf (s : State) (v : PublicId) : (s.withArgDest v).rxOvf = s.rxOvf := rfl
@[simp] theorem withArgDest_argLevel (s : State) (v : PublicId) : (s.withArgDest v).argLevel = s.argLevel := rfl
@[simp] theorem withArgDest_argDest (s : State) (v : PublicId) : (s.withArgDest v).argDest = v := rfl
@[simp] theorem withArgDest_argSrc (s : State) (v : PublicId) : (s.withArgDest v).argSrc = s.argSrc := rfl
@[simp] theorem withArgDest_result (s : State) (v : PublicId) : (s.withArgDest v).result = s.result := rfl
@[simp] theorem withArgDest_tbusAddr (s : State) (v : PublicId) : (s.withArgDest v).tbusAddr = s.tbusAddr := rfl
@[simp] theorem withArgDest_crc (s : State) (v : PublicId) : (s.withArgDest v).crc = s.crc := rfl
@[simp] theorem withArgDest_lastEvent (s : State) (v : PublicId) : (s.withArgDest v).lastEvent = s.lastEvent := rfl
@[simp] theorem withArgDest_matrix (s : State) (v : PublicId) : (s.withArgDest v).matrix = s.matrix := rfl
@[simp] theorem withArgDest_rx (s : State) (v : PublicId) : (s.withArgDest v).rx = s.rx := rfl
@[simp] theorem withArgDest_tx (s : State) (v : PublicId) : (s.withArgDest v).tx = s.tx := rfl
@[simp] theorem withArgDest_reply (s : State) (v : PublicId) : (s.withArgDest v).reply = s.reply := rfl
@[simp] theorem withArgDest_pending (s : State) (v : PublicId) : (s.withArgDest v).pending = s.pending := rfl

@[simp] theorem withArgSrc_build (s : State) (v : PublicId) : (s.withArgSrc v).build = s.build := rfl
@[simp] theorem withArgSrc_ctrl (s : State) (v : PublicId) : (s.withArgSrc v).ctrl = s.ctrl := rfl
@[simp] theorem withArgSrc_sticky (s : State) (v : PublicId) : (s.withArgSrc v).sticky = s.sticky := rfl
@[simp] theorem withArgSrc_hsDone (s : State) (v : PublicId) : (s.withArgSrc v).hsDone = s.hsDone := rfl
@[simp] theorem withArgSrc_rxOvf (s : State) (v : PublicId) : (s.withArgSrc v).rxOvf = s.rxOvf := rfl
@[simp] theorem withArgSrc_argLevel (s : State) (v : PublicId) : (s.withArgSrc v).argLevel = s.argLevel := rfl
@[simp] theorem withArgSrc_argDest (s : State) (v : PublicId) : (s.withArgSrc v).argDest = s.argDest := rfl
@[simp] theorem withArgSrc_argSrc (s : State) (v : PublicId) : (s.withArgSrc v).argSrc = v := rfl
@[simp] theorem withArgSrc_result (s : State) (v : PublicId) : (s.withArgSrc v).result = s.result := rfl
@[simp] theorem withArgSrc_tbusAddr (s : State) (v : PublicId) : (s.withArgSrc v).tbusAddr = s.tbusAddr := rfl
@[simp] theorem withArgSrc_crc (s : State) (v : PublicId) : (s.withArgSrc v).crc = s.crc := rfl
@[simp] theorem withArgSrc_lastEvent (s : State) (v : PublicId) : (s.withArgSrc v).lastEvent = s.lastEvent := rfl
@[simp] theorem withArgSrc_matrix (s : State) (v : PublicId) : (s.withArgSrc v).matrix = s.matrix := rfl
@[simp] theorem withArgSrc_rx (s : State) (v : PublicId) : (s.withArgSrc v).rx = s.rx := rfl
@[simp] theorem withArgSrc_tx (s : State) (v : PublicId) : (s.withArgSrc v).tx = s.tx := rfl
@[simp] theorem withArgSrc_reply (s : State) (v : PublicId) : (s.withArgSrc v).reply = s.reply := rfl
@[simp] theorem withArgSrc_pending (s : State) (v : PublicId) : (s.withArgSrc v).pending = s.pending := rfl

@[simp] theorem withResult_build (s : State) (v : PublicId) : (s.withResult v).build = s.build := rfl
@[simp] theorem withResult_ctrl (s : State) (v : PublicId) : (s.withResult v).ctrl = s.ctrl := rfl
@[simp] theorem withResult_sticky (s : State) (v : PublicId) : (s.withResult v).sticky = s.sticky := rfl
@[simp] theorem withResult_hsDone (s : State) (v : PublicId) : (s.withResult v).hsDone = s.hsDone := rfl
@[simp] theorem withResult_rxOvf (s : State) (v : PublicId) : (s.withResult v).rxOvf = s.rxOvf := rfl
@[simp] theorem withResult_argLevel (s : State) (v : PublicId) : (s.withResult v).argLevel = s.argLevel := rfl
@[simp] theorem withResult_argDest (s : State) (v : PublicId) : (s.withResult v).argDest = s.argDest := rfl
@[simp] theorem withResult_argSrc (s : State) (v : PublicId) : (s.withResult v).argSrc = s.argSrc := rfl
@[simp] theorem withResult_result (s : State) (v : PublicId) : (s.withResult v).result = v := rfl
@[simp] theorem withResult_tbusAddr (s : State) (v : PublicId) : (s.withResult v).tbusAddr = s.tbusAddr := rfl
@[simp] theorem withResult_crc (s : State) (v : PublicId) : (s.withResult v).crc = s.crc := rfl
@[simp] theorem withResult_lastEvent (s : State) (v : PublicId) : (s.withResult v).lastEvent = s.lastEvent := rfl
@[simp] theorem withResult_matrix (s : State) (v : PublicId) : (s.withResult v).matrix = s.matrix := rfl
@[simp] theorem withResult_rx (s : State) (v : PublicId) : (s.withResult v).rx = s.rx := rfl
@[simp] theorem withResult_tx (s : State) (v : PublicId) : (s.withResult v).tx = s.tx := rfl
@[simp] theorem withResult_reply (s : State) (v : PublicId) : (s.withResult v).reply = s.reply := rfl
@[simp] theorem withResult_pending (s : State) (v : PublicId) : (s.withResult v).pending = s.pending := rfl

@[simp] theorem withTbusAddr_build (s : State) (v : Byte) : (s.withTbusAddr v).build = s.build := rfl
@[simp] theorem withTbusAddr_ctrl (s : State) (v : Byte) : (s.withTbusAddr v).ctrl = s.ctrl := rfl
@[simp] theorem withTbusAddr_sticky (s : State) (v : Byte) : (s.withTbusAddr v).sticky = s.sticky := rfl
@[simp] theorem withTbusAddr_hsDone (s : State) (v : Byte) : (s.withTbusAddr v).hsDone = s.hsDone := rfl
@[simp] theorem withTbusAddr_rxOvf (s : State) (v : Byte) : (s.withTbusAddr v).rxOvf = s.rxOvf := rfl
@[simp] theorem withTbusAddr_argLevel (s : State) (v : Byte) : (s.withTbusAddr v).argLevel = s.argLevel := rfl
@[simp] theorem withTbusAddr_argDest (s : State) (v : Byte) : (s.withTbusAddr v).argDest = s.argDest := rfl
@[simp] theorem withTbusAddr_argSrc (s : State) (v : Byte) : (s.withTbusAddr v).argSrc = s.argSrc := rfl
@[simp] theorem withTbusAddr_result (s : State) (v : Byte) : (s.withTbusAddr v).result = s.result := rfl
@[simp] theorem withTbusAddr_tbusAddr (s : State) (v : Byte) : (s.withTbusAddr v).tbusAddr = v := rfl
@[simp] theorem withTbusAddr_crc (s : State) (v : Byte) : (s.withTbusAddr v).crc = s.crc := rfl
@[simp] theorem withTbusAddr_lastEvent (s : State) (v : Byte) : (s.withTbusAddr v).lastEvent = s.lastEvent := rfl
@[simp] theorem withTbusAddr_matrix (s : State) (v : Byte) : (s.withTbusAddr v).matrix = s.matrix := rfl
@[simp] theorem withTbusAddr_rx (s : State) (v : Byte) : (s.withTbusAddr v).rx = s.rx := rfl
@[simp] theorem withTbusAddr_tx (s : State) (v : Byte) : (s.withTbusAddr v).tx = s.tx := rfl
@[simp] theorem withTbusAddr_reply (s : State) (v : Byte) : (s.withTbusAddr v).reply = s.reply := rfl
@[simp] theorem withTbusAddr_pending (s : State) (v : Byte) : (s.withTbusAddr v).pending = s.pending := rfl

@[simp] theorem withCrc_build (s : State) (v : Half) : (s.withCrc v).build = s.build := rfl
@[simp] theorem withCrc_ctrl (s : State) (v : Half) : (s.withCrc v).ctrl = s.ctrl := rfl
@[simp] theorem withCrc_sticky (s : State) (v : Half) : (s.withCrc v).sticky = s.sticky := rfl
@[simp] theorem withCrc_hsDone (s : State) (v : Half) : (s.withCrc v).hsDone = s.hsDone := rfl
@[simp] theorem withCrc_rxOvf (s : State) (v : Half) : (s.withCrc v).rxOvf = s.rxOvf := rfl
@[simp] theorem withCrc_argLevel (s : State) (v : Half) : (s.withCrc v).argLevel = s.argLevel := rfl
@[simp] theorem withCrc_argDest (s : State) (v : Half) : (s.withCrc v).argDest = s.argDest := rfl
@[simp] theorem withCrc_argSrc (s : State) (v : Half) : (s.withCrc v).argSrc = s.argSrc := rfl
@[simp] theorem withCrc_result (s : State) (v : Half) : (s.withCrc v).result = s.result := rfl
@[simp] theorem withCrc_tbusAddr (s : State) (v : Half) : (s.withCrc v).tbusAddr = s.tbusAddr := rfl
@[simp] theorem withCrc_crc (s : State) (v : Half) : (s.withCrc v).crc = v := rfl
@[simp] theorem withCrc_lastEvent (s : State) (v : Half) : (s.withCrc v).lastEvent = s.lastEvent := rfl
@[simp] theorem withCrc_matrix (s : State) (v : Half) : (s.withCrc v).matrix = s.matrix := rfl
@[simp] theorem withCrc_rx (s : State) (v : Half) : (s.withCrc v).rx = s.rx := rfl
@[simp] theorem withCrc_tx (s : State) (v : Half) : (s.withCrc v).tx = s.tx := rfl
@[simp] theorem withCrc_reply (s : State) (v : Half) : (s.withCrc v).reply = s.reply := rfl
@[simp] theorem withCrc_pending (s : State) (v : Half) : (s.withCrc v).pending = s.pending := rfl

@[simp] theorem withLastEvent_build (s : State) (v : Word) : (s.withLastEvent v).build = s.build := rfl
@[simp] theorem withLastEvent_ctrl (s : State) (v : Word) : (s.withLastEvent v).ctrl = s.ctrl := rfl
@[simp] theorem withLastEvent_sticky (s : State) (v : Word) : (s.withLastEvent v).sticky = s.sticky := rfl
@[simp] theorem withLastEvent_hsDone (s : State) (v : Word) : (s.withLastEvent v).hsDone = s.hsDone := rfl
@[simp] theorem withLastEvent_rxOvf (s : State) (v : Word) : (s.withLastEvent v).rxOvf = s.rxOvf := rfl
@[simp] theorem withLastEvent_argLevel (s : State) (v : Word) : (s.withLastEvent v).argLevel = s.argLevel := rfl
@[simp] theorem withLastEvent_argDest (s : State) (v : Word) : (s.withLastEvent v).argDest = s.argDest := rfl
@[simp] theorem withLastEvent_argSrc (s : State) (v : Word) : (s.withLastEvent v).argSrc = s.argSrc := rfl
@[simp] theorem withLastEvent_result (s : State) (v : Word) : (s.withLastEvent v).result = s.result := rfl
@[simp] theorem withLastEvent_tbusAddr (s : State) (v : Word) : (s.withLastEvent v).tbusAddr = s.tbusAddr := rfl
@[simp] theorem withLastEvent_crc (s : State) (v : Word) : (s.withLastEvent v).crc = s.crc := rfl
@[simp] theorem withLastEvent_lastEvent (s : State) (v : Word) : (s.withLastEvent v).lastEvent = v := rfl
@[simp] theorem withLastEvent_matrix (s : State) (v : Word) : (s.withLastEvent v).matrix = s.matrix := rfl
@[simp] theorem withLastEvent_rx (s : State) (v : Word) : (s.withLastEvent v).rx = s.rx := rfl
@[simp] theorem withLastEvent_tx (s : State) (v : Word) : (s.withLastEvent v).tx = s.tx := rfl
@[simp] theorem withLastEvent_reply (s : State) (v : Word) : (s.withLastEvent v).reply = s.reply := rfl
@[simp] theorem withLastEvent_pending (s : State) (v : Word) : (s.withLastEvent v).pending = s.pending := rfl

@[simp] theorem withMatrix_build (s : State) (v : RoutingMatrix) : (s.withMatrix v).build = s.build := rfl
@[simp] theorem withMatrix_ctrl (s : State) (v : RoutingMatrix) : (s.withMatrix v).ctrl = s.ctrl := rfl
@[simp] theorem withMatrix_sticky (s : State) (v : RoutingMatrix) : (s.withMatrix v).sticky = s.sticky := rfl
@[simp] theorem withMatrix_hsDone (s : State) (v : RoutingMatrix) : (s.withMatrix v).hsDone = s.hsDone := rfl
@[simp] theorem withMatrix_rxOvf (s : State) (v : RoutingMatrix) : (s.withMatrix v).rxOvf = s.rxOvf := rfl
@[simp] theorem withMatrix_argLevel (s : State) (v : RoutingMatrix) : (s.withMatrix v).argLevel = s.argLevel := rfl
@[simp] theorem withMatrix_argDest (s : State) (v : RoutingMatrix) : (s.withMatrix v).argDest = s.argDest := rfl
@[simp] theorem withMatrix_argSrc (s : State) (v : RoutingMatrix) : (s.withMatrix v).argSrc = s.argSrc := rfl
@[simp] theorem withMatrix_result (s : State) (v : RoutingMatrix) : (s.withMatrix v).result = s.result := rfl
@[simp] theorem withMatrix_tbusAddr (s : State) (v : RoutingMatrix) : (s.withMatrix v).tbusAddr = s.tbusAddr := rfl
@[simp] theorem withMatrix_crc (s : State) (v : RoutingMatrix) : (s.withMatrix v).crc = s.crc := rfl
@[simp] theorem withMatrix_lastEvent (s : State) (v : RoutingMatrix) : (s.withMatrix v).lastEvent = s.lastEvent := rfl
@[simp] theorem withMatrix_matrix (s : State) (v : RoutingMatrix) : (s.withMatrix v).matrix = v := rfl
@[simp] theorem withMatrix_rx (s : State) (v : RoutingMatrix) : (s.withMatrix v).rx = s.rx := rfl
@[simp] theorem withMatrix_tx (s : State) (v : RoutingMatrix) : (s.withMatrix v).tx = s.tx := rfl
@[simp] theorem withMatrix_reply (s : State) (v : RoutingMatrix) : (s.withMatrix v).reply = s.reply := rfl
@[simp] theorem withMatrix_pending (s : State) (v : RoutingMatrix) : (s.withMatrix v).pending = s.pending := rfl

@[simp] theorem withRx_build (s : State) (v : List Byte) : (s.withRx v).build = s.build := rfl
@[simp] theorem withRx_ctrl (s : State) (v : List Byte) : (s.withRx v).ctrl = s.ctrl := rfl
@[simp] theorem withRx_sticky (s : State) (v : List Byte) : (s.withRx v).sticky = s.sticky := rfl
@[simp] theorem withRx_hsDone (s : State) (v : List Byte) : (s.withRx v).hsDone = s.hsDone := rfl
@[simp] theorem withRx_rxOvf (s : State) (v : List Byte) : (s.withRx v).rxOvf = s.rxOvf := rfl
@[simp] theorem withRx_argLevel (s : State) (v : List Byte) : (s.withRx v).argLevel = s.argLevel := rfl
@[simp] theorem withRx_argDest (s : State) (v : List Byte) : (s.withRx v).argDest = s.argDest := rfl
@[simp] theorem withRx_argSrc (s : State) (v : List Byte) : (s.withRx v).argSrc = s.argSrc := rfl
@[simp] theorem withRx_result (s : State) (v : List Byte) : (s.withRx v).result = s.result := rfl
@[simp] theorem withRx_tbusAddr (s : State) (v : List Byte) : (s.withRx v).tbusAddr = s.tbusAddr := rfl
@[simp] theorem withRx_crc (s : State) (v : List Byte) : (s.withRx v).crc = s.crc := rfl
@[simp] theorem withRx_lastEvent (s : State) (v : List Byte) : (s.withRx v).lastEvent = s.lastEvent := rfl
@[simp] theorem withRx_matrix (s : State) (v : List Byte) : (s.withRx v).matrix = s.matrix := rfl
@[simp] theorem withRx_rx (s : State) (v : List Byte) : (s.withRx v).rx = v := rfl
@[simp] theorem withRx_tx (s : State) (v : List Byte) : (s.withRx v).tx = s.tx := rfl
@[simp] theorem withRx_reply (s : State) (v : List Byte) : (s.withRx v).reply = s.reply := rfl
@[simp] theorem withRx_pending (s : State) (v : List Byte) : (s.withRx v).pending = s.pending := rfl

@[simp] theorem withTx_build (s : State) (v : List Byte) : (s.withTx v).build = s.build := rfl
@[simp] theorem withTx_ctrl (s : State) (v : List Byte) : (s.withTx v).ctrl = s.ctrl := rfl
@[simp] theorem withTx_sticky (s : State) (v : List Byte) : (s.withTx v).sticky = s.sticky := rfl
@[simp] theorem withTx_hsDone (s : State) (v : List Byte) : (s.withTx v).hsDone = s.hsDone := rfl
@[simp] theorem withTx_rxOvf (s : State) (v : List Byte) : (s.withTx v).rxOvf = s.rxOvf := rfl
@[simp] theorem withTx_argLevel (s : State) (v : List Byte) : (s.withTx v).argLevel = s.argLevel := rfl
@[simp] theorem withTx_argDest (s : State) (v : List Byte) : (s.withTx v).argDest = s.argDest := rfl
@[simp] theorem withTx_argSrc (s : State) (v : List Byte) : (s.withTx v).argSrc = s.argSrc := rfl
@[simp] theorem withTx_result (s : State) (v : List Byte) : (s.withTx v).result = s.result := rfl
@[simp] theorem withTx_tbusAddr (s : State) (v : List Byte) : (s.withTx v).tbusAddr = s.tbusAddr := rfl
@[simp] theorem withTx_crc (s : State) (v : List Byte) : (s.withTx v).crc = s.crc := rfl
@[simp] theorem withTx_lastEvent (s : State) (v : List Byte) : (s.withTx v).lastEvent = s.lastEvent := rfl
@[simp] theorem withTx_matrix (s : State) (v : List Byte) : (s.withTx v).matrix = s.matrix := rfl
@[simp] theorem withTx_rx (s : State) (v : List Byte) : (s.withTx v).rx = s.rx := rfl
@[simp] theorem withTx_tx (s : State) (v : List Byte) : (s.withTx v).tx = v := rfl
@[simp] theorem withTx_reply (s : State) (v : List Byte) : (s.withTx v).reply = s.reply := rfl
@[simp] theorem withTx_pending (s : State) (v : List Byte) : (s.withTx v).pending = s.pending := rfl

@[simp] theorem withReply_build (s : State) (v : Reply) : (s.withReply v).build = s.build := rfl
@[simp] theorem withReply_ctrl (s : State) (v : Reply) : (s.withReply v).ctrl = s.ctrl := rfl
@[simp] theorem withReply_sticky (s : State) (v : Reply) : (s.withReply v).sticky = s.sticky := rfl
@[simp] theorem withReply_hsDone (s : State) (v : Reply) : (s.withReply v).hsDone = s.hsDone := rfl
@[simp] theorem withReply_rxOvf (s : State) (v : Reply) : (s.withReply v).rxOvf = s.rxOvf := rfl
@[simp] theorem withReply_argLevel (s : State) (v : Reply) : (s.withReply v).argLevel = s.argLevel := rfl
@[simp] theorem withReply_argDest (s : State) (v : Reply) : (s.withReply v).argDest = s.argDest := rfl
@[simp] theorem withReply_argSrc (s : State) (v : Reply) : (s.withReply v).argSrc = s.argSrc := rfl
@[simp] theorem withReply_result (s : State) (v : Reply) : (s.withReply v).result = s.result := rfl
@[simp] theorem withReply_tbusAddr (s : State) (v : Reply) : (s.withReply v).tbusAddr = s.tbusAddr := rfl
@[simp] theorem withReply_crc (s : State) (v : Reply) : (s.withReply v).crc = s.crc := rfl
@[simp] theorem withReply_lastEvent (s : State) (v : Reply) : (s.withReply v).lastEvent = s.lastEvent := rfl
@[simp] theorem withReply_matrix (s : State) (v : Reply) : (s.withReply v).matrix = s.matrix := rfl
@[simp] theorem withReply_rx (s : State) (v : Reply) : (s.withReply v).rx = s.rx := rfl
@[simp] theorem withReply_tx (s : State) (v : Reply) : (s.withReply v).tx = s.tx := rfl
@[simp] theorem withReply_reply (s : State) (v : Reply) : (s.withReply v).reply = v := rfl
@[simp] theorem withReply_pending (s : State) (v : Reply) : (s.withReply v).pending = s.pending := rfl

@[simp] theorem withPending_build (s : State) (v : List HostStep) : (s.withPending v).build = s.build := rfl
@[simp] theorem withPending_ctrl (s : State) (v : List HostStep) : (s.withPending v).ctrl = s.ctrl := rfl
@[simp] theorem withPending_sticky (s : State) (v : List HostStep) : (s.withPending v).sticky = s.sticky := rfl
@[simp] theorem withPending_hsDone (s : State) (v : List HostStep) : (s.withPending v).hsDone = s.hsDone := rfl
@[simp] theorem withPending_rxOvf (s : State) (v : List HostStep) : (s.withPending v).rxOvf = s.rxOvf := rfl
@[simp] theorem withPending_argLevel (s : State) (v : List HostStep) : (s.withPending v).argLevel = s.argLevel := rfl
@[simp] theorem withPending_argDest (s : State) (v : List HostStep) : (s.withPending v).argDest = s.argDest := rfl
@[simp] theorem withPending_argSrc (s : State) (v : List HostStep) : (s.withPending v).argSrc = s.argSrc := rfl
@[simp] theorem withPending_result (s : State) (v : List HostStep) : (s.withPending v).result = s.result := rfl
@[simp] theorem withPending_tbusAddr (s : State) (v : List HostStep) : (s.withPending v).tbusAddr = s.tbusAddr := rfl
@[simp] theorem withPending_crc (s : State) (v : List HostStep) : (s.withPending v).crc = s.crc := rfl
@[simp] theorem withPending_lastEvent (s : State) (v : List HostStep) : (s.withPending v).lastEvent = s.lastEvent := rfl
@[simp] theorem withPending_matrix (s : State) (v : List HostStep) : (s.withPending v).matrix = s.matrix := rfl
@[simp] theorem withPending_rx (s : State) (v : List HostStep) : (s.withPending v).rx = s.rx := rfl
@[simp] theorem withPending_tx (s : State) (v : List HostStep) : (s.withPending v).tx = s.tx := rfl
@[simp] theorem withPending_reply (s : State) (v : List HostStep) : (s.withPending v).reply = s.reply := rfl
@[simp] theorem withPending_pending (s : State) (v : List HostStep) : (s.withPending v).pending = v := rfl

end Sys2Proof.Machine
end

