-- ==== Sys2Proof/Laws/Ops.lean ====
section
/-! SUPPORT. What each shared operation does, said once: as field updates (tagged simp, so that the field lemmas of
Laws/State.lean finish), or as the cases it can take. -/

namespace Sys2Proof.Machine

@[simp] theorem readAnswers_eq (s : State) (v : Word) : readAnswers s v = s.withReply (.readOk v) := rfl

@[simp] theorem writeAccepted_eq (s : State) : writeAccepted s = s.withReply .writeOk := rfl

@[simp] theorem setSticky_eq (s : State) (b : StickyBit) : setSticky s b = s.withSticky (s.sticky.set b) := rfl

@[simp] theorem emptyRx_eq (s : State) : emptyRx s = (s.withRx []).withRxOvf false := rfl

@[simp] theorem appendTx_eq (s : State) (frame : List Byte) : appendTx s frame = s.withTx (s.tx ++ frame) := rfl

@[simp] theorem popTx_eq (s : State) : popTx s = s.withTx s.tx.tail := rfl

@[simp] theorem clearMatrix_eq (s : State) : clearMatrix s = s.withMatrix [] := rfl

@[simp] theorem setCell_eq (s : State) (c : Level) (d : Nat) (v : PublicId) :
    setCell s c d v = s.withMatrix (writeCell s.matrix (cellNumber c d) v) := rfl

@[simp] theorem raiseDrop_eq (s : State) (r : DropReason) :
    raiseDrop s r = (s.withSticky (s.sticky.set .errDrop)).withLastEvent (dropEvent r) := rfl

@[simp] theorem raiseBusError_eq (s : State) (w : Bool) :
    raiseBusError s w = (s.withSticky (s.sticky.set .errBus)).withReply (errorReply w) := rfl

@[simp] theorem applyReset_eq (s : State) : applyReset s = (State.resetOf s.build).withPending s.pending := rfl

/-- Setting a sticky bit sets that bit and leaves the others (R36). -/
theorem Sticky.get_set (st : Sticky) (b b' : StickyBit) :
    (st.set b).get b' = (decide (b' = b) || st.get b') := by
  cases b <;> cases b' <;> rfl

/-- Write 1 to clear clears exactly the bits whose written bit is 1 (R294). -/
theorem Sticky.get_w1c (st : Sticky) (v : Word) (b : StickyBit) :
    (st.w1c v).get b = (st.get b && !v.getLsbD b.index) := by
  cases b <;> rfl

/-- Two sticky words with the same bits are equal. -/
theorem Sticky.ext_get {st st' : Sticky} (h : ∀ b, st.get b = st'.get b) : st = st' := by
  cases st; cases st'
  simp only [Sticky.mk.injEq]
  exact ⟨h .evHs, h .evXp, h .evReady, h .errDrop, h .errBounds, h .errCmd, h .errTxOvf, h .errBus⟩

/-- A push: the byte appended, or RX_OVF set in a full RX (R296). -/
theorem pushRx_cases (s : State) (b : Byte) :
    (s.rx.length < s.build.rxMax ∧ pushRx s b = s.withRx (s.rx ++ [b])) ∨
    (s.build.rxMax ≤ s.rx.length ∧ pushRx s b = s.withRxOvf true) := by
  by_cases h : s.rx.length < s.build.rxMax
  · exact .inl ⟨h, if_pos h⟩
  · exact .inr ⟨Nat.le_of_not_lt h, if_neg h⟩

theorem txHasRoom_iff (s : State) (n : Nat) : txHasRoom s n = true ↔ n ≤ s.build.txMax - s.tx.length := by
  simp [txHasRoom]

theorem indexInRange_iff (b : Build) (c : Level) (d : Nat) :
    indexInRange b c d = true ↔ c.toNat < b.numLevels ∧ 1 ≤ d ∧ d ≤ b.numOutputs := by
  simp [indexInRange, and_assoc]

theorem sourceInRange_iff (b : Build) (s : PublicId) : sourceInRange b s = true ↔ s.toNat ≤ b.numInputs := by
  simp [sourceInRange]

theorem setXpOperandsOk_iff (b : Build) (c : Level) (d s : PublicId) :
    setXpOperandsOk b c d s = true ↔
      c.toNat < b.numLevels ∧ 1 ≤ d.toNat ∧ d.toNat ≤ b.numOutputs ∧ s ≠ 0#17 ∧ s.toNat ≤ b.numInputs := by
  simp [setXpOperandsOk, indexInRange, sourceInRange, and_assoc]

end Sys2Proof.Machine
end

