-- ==== Sys2Proof/Laws/Frames.lean ====
section
/-! SUPPORT. The frame encoder and decoder: lengths, the running checksum, and what SET_XP, a handshake, an XP frame and a
dump frame can do to the state, said once each. -/

namespace Sys2Proof.Machine

/-- The running checksum: crc16 of a concatenation goes on from crc16 of the first part (R231). -/
theorem crcRun_append (r : Half) (xs ys : List Byte) : crcRun r (xs ++ ys) = crcRun (crcRun r xs) ys :=
  List.foldl_append ..

@[simp] theorem setPayload_length (b : Build) (c : Level) (d s : PublicId) (a : Byte) :
    (setPayload b c d s a).length = 15 := by
  simp [setPayload, Build.tag, bytesBE16, bytesBE32]

@[simp] theorem encodeSet_length (b : Build) (c : Level) (d s : PublicId) (a : Byte) :
    (encodeSet b c d s a).length = 24 := by
  simp [encodeSet, bytesLE16]

/-- SET_XP: bad operands, no room, or a whole frame appended, with the optimistic write under OPT_WR (R201, R204). -/
theorem setXpEffect_cases (s : State) :
    (setXpOperandsOk s.build s.argLevel s.argDest s.argSrc = false ∧
      setXpEffect s = s.withSticky (s.sticky.set .errCmd)) ∨
    (setXpOperandsOk s.build s.argLevel s.argDest s.argSrc = true ∧ s.build.txMax - s.tx.length < 24 ∧
      setXpEffect s = s.withSticky (s.sticky.set .errTxOvf)) ∨
    (setXpOperandsOk s.build s.argLevel s.argDest s.argSrc = true ∧ 24 ≤ s.build.txMax - s.tx.length ∧
      optWr s.ctrl = true ∧
      setXpEffect s =
        (s.withTx (s.tx ++ encodeSet s.build s.argLevel s.argDest s.argSrc s.tbusAddr)).withMatrix
          (writeCell s.matrix (cellNumber s.argLevel s.argDest.toNat) s.argSrc)) ∨
    (setXpOperandsOk s.build s.argLevel s.argDest s.argSrc = true ∧ 24 ≤ s.build.txMax - s.tx.length ∧
      optWr s.ctrl = false ∧
      setXpEffect s = s.withTx (s.tx ++ encodeSet s.build s.argLevel s.argDest s.argSrc s.tbusAddr)) := by
  cases hops : setXpOperandsOk s.build s.argLevel s.argDest s.argSrc
  · exact .inl ⟨rfl, by simp [setXpEffect, hops]⟩
  · by_cases hroom : 24 ≤ s.build.txMax - s.tx.length
    · cases hopt : optWr s.ctrl
      · exact .inr (.inr (.inr ⟨rfl, hroom, rfl, by simp [setXpEffect, hops, txHasRoom, hroom, optimisticWrite, hopt]⟩))
      · exact .inr (.inr (.inl ⟨rfl, hroom, rfl, by simp [setXpEffect, hops, txHasRoom, hroom, optimisticWrite, hopt]⟩))
    · exact .inr (.inl ⟨rfl, by omega, by simp [setXpEffect, hops, txHasRoom, hroom]⟩)

/-- A handshake: INIT_FRAME appended whole, or a drop for want of room (R155). -/
theorem handshake_cases (s : State) :
    (23 ≤ s.build.txMax - s.tx.length ∧
      handshake s = (((s.withTx (s.tx ++ s.build.initFrame.toList)).withHsDone true).withSticky
        (s.sticky.set .evHs)).withLastEvent handshakeEvent) ∨
    (s.build.txMax - s.tx.length < 23 ∧
      handshake s = (s.withSticky ((s.sticky.set .errTxOvf).set .errDrop)).withLastEvent (dropEvent .txFull)) := by
  by_cases h : 23 ≤ s.build.txMax - s.tx.length
  · exact .inl ⟨h, by simp [handshake, txHasRoom, h]⟩
  · exact .inr ⟨by omega, by simp [handshake, txHasRoom, h, State.withSticky]⟩

/-- An XP frame: a bad mask, a crosspoint out of range, or one cell written (R164, R165). -/
theorem applyXp_cases (s : State) (f : List Byte) :
    (levelOfMask s.build.numLevels (xpMask f) = none ∧ applyXp s f = raiseDrop s .badMask) ∨
    (∃ c, levelOfMask s.build.numLevels (xpMask f) = some c ∧
      ((s.build.numOutputs < (publicOfWire (xpWireDest f)).toNat ∨
          s.build.numInputs < (publicOfWire (xpWireSource f)).toNat) ∧
        applyXp s f = raiseDrop (setSticky s .errBounds) .bounds)) ∨
    (∃ c, levelOfMask s.build.numLevels (xpMask f) = some c ∧
      ((publicOfWire (xpWireDest f)).toNat ≤ s.build.numOutputs ∧
        (publicOfWire (xpWireSource f)).toNat ≤ s.build.numInputs ∧
        applyXp s f = ((s.withMatrix (writeCell s.matrix (cellNumber c (publicOfWire (xpWireDest f)).toNat)
            (publicOfWire (xpWireSource f)))).withSticky (s.sticky.set .evXp)).withLastEvent
          (xpEvent c (publicOfWire (xpWireDest f))))) := by
  cases hm : levelOfMask s.build.numLevels (xpMask f) with
  | none => exact .inl ⟨rfl, by rw [applyXp, hm]⟩
  | some c =>
    right
    have hx : applyXp s f = applyCrosspoint s c (publicOfWire (xpWireDest f)) (publicOfWire (xpWireSource f)) := by
      rw [applyXp, hm]
    by_cases hb : s.build.numOutputs < (publicOfWire (xpWireDest f)).toNat ∨
        s.build.numInputs < (publicOfWire (xpWireSource f)).toNat
    · exact .inl ⟨c, rfl, hb, by rw [hx, applyCrosspoint, if_pos hb]⟩
    · have hb' := not_or.mp hb
      exact .inr ⟨c, rfl, by omega, by omega, by rw [hx, applyCrosspoint, if_neg hb]; rfl⟩

/-- A level found for a mask is a level of the build with that mask (R164). -/
theorem levelOfMask_some {n : Nat} {m : Half} {c : Level} (h : levelOfMask n m = some c) :
    c.toNat < n ∧ m = 1#16 <<< c.toNat := by
  have := List.find?_some h
  simpa using this

/-- One dump entry: written when in range, skipped with ERR_BOUNDS otherwise (R167). -/
theorem applyEntry_cases (s : State) (e : Nat × PublicId) :
    (1 ≤ e.1 ∧ e.1 ≤ s.build.numOutputs ∧ e.2.toNat ≤ s.build.numInputs ∧
      applyEntry s e = s.withMatrix (writeCell s.matrix (cellNumber s.build.dumpLevel e.1) e.2)) ∨
    (¬(1 ≤ e.1 ∧ e.1 ≤ s.build.numOutputs ∧ e.2.toNat ≤ s.build.numInputs) ∧
      applyEntry s e = s.withSticky (s.sticky.set .errBounds)) := by
  by_cases h : 1 ≤ e.1 ∧ e.1 ≤ s.build.numOutputs ∧ e.2.toNat ≤ s.build.numInputs
  · exact .inl ⟨h.1, h.2.1, h.2.2, if_pos h⟩
  · exact .inr ⟨h, if_neg h⟩

/-- The entries of a dump change nothing but the matrix and ERR_BOUNDS (R167). -/
theorem applyEntries_eq (s : State) (es : List (Nat × PublicId)) :
    ∃ m st, applyEntries s es = (s.withMatrix m).withSticky st ∧ (st = s.sticky ∨ st = s.sticky.set .errBounds) := by
  induction es generalizing s with
  | nil => exact ⟨s.matrix, s.sticky, rfl, .inl rfl⟩
  | cons e es ih =>
    obtain ⟨m, st, h, hst⟩ := ih (applyEntry s e)
    have happ : applyEntries s (e :: es) = applyEntries (applyEntry s e) es := rfl
    rcases applyEntry_cases s e with ⟨-, -, -, he⟩ | ⟨-, he⟩
    · rw [he] at h hst
      exact ⟨m, st, by rw [happ, he, h]; rfl, hst⟩
    · rw [he] at h hst
      refine ⟨m, st, by rw [happ, he, h]; rfl, .inr ?_⟩
      rcases hst with rfl | rfl <;> rfl

/-- A property of the matrix that one write in range keeps, all the entries of a dump keep (R167). -/
theorem applyEntries_matrix {P : RoutingMatrix → Prop} (s : State) (es : List (Nat × PublicId)) (h : P s.matrix)
    (hw : ∀ m d v, P m → 1 ≤ d → d ≤ s.build.numOutputs → v.toNat ≤ s.build.numInputs →
      P (writeCell m (cellNumber s.build.dumpLevel d) v)) :
    P (applyEntries s es).matrix := by
  induction es generalizing s with
  | nil => exact h
  | cons e es ih =>
    show P (applyEntries (applyEntry s e) es).matrix
    rcases applyEntry_cases s e with ⟨h1, h2, h3, he⟩ | ⟨-, he⟩ <;> rw [he]
    · exact ih _ (hw _ _ _ h h1 h2 h3) hw
    · exact ih _ h hw

/-- The optional checks answer the shape they are given, or a drop (R161, R162). -/
theorem optionalChecks_cases (ctrl : Word) (f : List Byte) (shape : FrameVerdict) :
    optionalChecks ctrl f shape = shape ∨ ∃ r, optionalChecks ctrl f shape = .drop r := by
  unfold optionalChecks
  split
  · exact .inr ⟨_, rfl⟩
  · split
    · exact .inr ⟨_, rfl⟩
    · exact .inl rfl

/-- A verdict is a drop, or a banner that lost no byte, or an XP frame of 20 bytes, or a dump of whole entries; the last two
only with the handshake done (R151). -/
theorem frameVerdict_cases (tag : List Byte) (ctrl : Word) (hsDone rxOvf : Bool) (f : List Byte) :
    (∃ r, frameVerdict tag ctrl hsDone rxOvf f = .drop r) ∨
    (rxOvf = false ∧ isBanner f = true ∧ frameVerdict tag ctrl hsDone rxOvf f = .banner) ∨
    (hsDone = true ∧ f.length = 20 ∧ frameVerdict tag ctrl hsDone rxOvf f = .xp) ∨
    (hsDone = true ∧ 18 ≤ f.length ∧ (f.length - 18) % 3 = 0 ∧ frameVerdict tag ctrl hsDone rxOvf f = .dump) := by
  unfold frameVerdict
  split
  · exact .inl ⟨_, rfl⟩
  split
  · exact .inl ⟨_, rfl⟩
  split
  · exact .inr (.inl ⟨by simpa using ‹¬rxOvf = true›, ‹_›, rfl⟩)
  split
  · exact .inl ⟨_, rfl⟩
  rename_i hs
  have hs : hsDone = true := by simpa using hs
  split
  · exact .inl ⟨_, rfl⟩
  split
  · exact .inl ⟨_, rfl⟩
  split
  · rcases optionalChecks_cases ctrl f .xp with h | h
    · exact .inr (.inr (.inl ⟨hs, ‹_›, h⟩))
    · exact .inl h
  split
  · exact .inl ⟨_, rfl⟩
  split
  · exact .inl ⟨_, rfl⟩
  · rcases optionalChecks_cases ctrl f .dump with h | h
    · exact .inr (.inr (.inr ⟨hs, by omega, by omega, h⟩))
    · exact .inl h

/-- The fields of a LAST_EVENT word are those it was packed from (R47). -/
theorem packEvent_fields (data : BitVec 21) (level : Level) (reason : BitVec 4) (kind : EventKind) :
    eventKindField (packEvent data level reason kind) = kind.code ∧
    eventReasonField (packEvent data level reason kind) = reason ∧
    eventLevelField (packEvent data level reason kind) = level ∧
    eventDataField (packEvent data level reason kind) = data := by
  have hb : ∀ i, (packEvent data level reason kind).getLsbD i =
      if i < 4 then kind.code.getLsbD i else if i < 8 then reason.getLsbD (i - 4)
      else if i < 11 then level.getLsbD (i - 8) else data.getLsbD (i - 11) := by
    intro i
    have h : (packEvent data level reason kind).getLsbD i =
        (data ++ level ++ reason ++ kind.code : BitVec (21 + 3 + 4 + 4)).getLsbD i := rfl
    rw [h, BitVec.getLsbD_append, BitVec.getLsbD_append, BitVec.getLsbD_append]
    by_cases h1 : i < 4
    · rw [if_pos h1, if_pos h1]
    · rw [if_neg h1, if_neg h1]
      by_cases h2 : i < 8
      · rw [if_pos (by omega), if_pos h2]
      · rw [if_neg (by omega), if_neg h2]
        by_cases h3 : i < 11
        · rw [if_pos (by omega), if_pos h3, show i - 4 - 4 = i - 8 by omega]
        · rw [if_neg (by omega), if_neg h3, show i - 4 - 4 - 3 = i - 11 by omega]
  refine ⟨?_, ?_, ?_, ?_⟩ <;> apply BitVec.eq_of_getLsbD_eq <;> intro i hi
  · rw [eventKindField, BitVec.getLsbD_extractLsb', hb, if_pos (by omega)]
    simp [hi]
  · rw [eventReasonField, BitVec.getLsbD_extractLsb', hb, if_neg (by omega), if_pos (by omega)]
    simp [hi]
  · rw [eventLevelField, BitVec.getLsbD_extractLsb', hb, if_neg (by omega), if_neg (by omega), if_pos (by omega)]
    simp [hi]
  · rw [eventDataField, BitVec.getLsbD_extractLsb', hb, if_neg (by omega), if_neg (by omega), if_neg (by omega)]
    simp [hi]

/-- A public id is its wire id plus one, without wrap-around (R18, R112). -/
theorem publicOfWire_toNat (w : Half) : (publicOfWire w).toNat = w.toNat + 1 := by
  simp [publicOfWire]
  omega

/-- The wire id of a public id 1..65536 is that id less one (R18, R112). -/
theorem wireOfPublic_toNat (d : PublicId) (h : 1 ≤ d.toNat) (h' : d.toNat ≤ 65536) :
    (wireOfPublic d).toNat = d.toNat - 1 := by
  simp [wireOfPublic, BitVec.toNat_sub]
  omega

/-- BE16(x, y) = x * 256 + y (R12). -/
theorem be16_toNat (x y : Byte) : (be16 x y).toNat = x.toNat * 256 + y.toNat := by
  have h : (be16 x y).toNat = (x ++ y : BitVec (8 + 8)).toNat := rfl
  rw [h, BitVec.toNat_append, Nat.shiftLeft_eq, Nat.mul_comm, ← Nat.two_pow_add_eq_or_of_lt y.isLt, Nat.mul_comm]

/-- The outcomes of a commit: the effect of its verdict on the state with RX emptied (R151, R168). -/
theorem commitEffect_eq (s : State) :
    commitEffect s = applyVerdict ((s.withRx []).withRxOvf false) s.rx
      (frameVerdict s.build.tag s.ctrl s.hsDone s.rxOvf s.rx) := rfl

end Sys2Proof.Machine
end

