-- ==== Sys2Proof/Laws/PerInstr.lean ====
section
/-! SUPPORT. The family `EncodesInRow`, one lemma per constructor of `Instr`: the access word the encoder writes for a
well-formed instruction selects the instruction's own row of spec/opcode_table.json, `A & mask == match` (R101). -/

namespace Sys2Proof.Laws.EncodesInRow

/-- The encoded word of a well-formed instruction lies in its row of the opcode table (R101). -/
def Statement (i : Instr) : Prop := WellFormed i → selectsRow (encode i) i

theorem nop : Statement .nop := fun _ => rfl
theorem rxCommit : Statement .rxCommit := fun _ => rfl
theorem rxClear : Statement .rxClear := fun _ => rfl
theorem txClear : Statement .txClear := fun _ => rfl
theorem setXp : Statement .setXp := fun _ => rfl
theorem mxGet : Statement .mxGet := fun _ => rfl
theorem mxSet : Statement .mxSet := fun _ => rfl
theorem mxClear : Statement .mxClear := fun _ => rfl
theorem crcInit : Statement .crcInit := fun _ => rfl
theorem linkDown : Statement .linkDown := fun _ => rfl
theorem cmdIllegal (v : Word) : Statement (.cmdIllegal v) := fun _ => accessWord_and_rowMask _ _ v
theorem rdCtrl : Statement .rdCtrl := fun _ => rfl
theorem rdStatus : Statement .rdStatus := fun _ => rfl
theorem rdCmd : Statement .rdCmd := fun _ => rfl
theorem rdArgLevel : Statement .rdArgLevel := fun _ => rfl
theorem rdArgDest : Statement .rdArgDest := fun _ => rfl
theorem rdArgSrc : Statement .rdArgSrc := fun _ => rfl
theorem rdResult : Statement .rdResult := fun _ => rfl
theorem rdTbusAddr : Statement .rdTbusAddr := fun _ => rfl
theorem rdRxData : Statement .rdRxData := fun _ => rfl
theorem rdRxCount : Statement .rdRxCount := fun _ => rfl
theorem rdTxData : Statement .rdTxData := fun _ => rfl
theorem rdTxCount : Statement .rdTxCount := fun _ => rfl
theorem rdCrcValue : Statement .rdCrcValue := fun _ => rfl
theorem rdCrcData : Statement .rdCrcData := fun _ => rfl
theorem rdCrcSwap : Statement .rdCrcSwap := fun _ => rfl
theorem rdLastEvent : Statement .rdLastEvent := fun _ => rfl
theorem rdCfgLevels : Statement .rdCfgLevels := fun _ => rfl
theorem rdCfgOutputs : Statement .rdCfgOutputs := fun _ => rfl
theorem rdCfgInputs : Statement .rdCfgInputs := fun _ => rfl
theorem rdCfgRxmax : Statement .rdCfgRxmax := fun _ => rfl
theorem rdCfgTxmax : Statement .rdCfgTxmax := fun _ => rfl
theorem wrCtrl (v : Word) : Statement (.wrCtrl v) := fun _ => accessWord_and_rowMask _ _ v
theorem wrStatus (v : Word) : Statement (.wrStatus v) := fun _ => accessWord_and_rowMask _ _ v
theorem wrArgLevel (v : Word) : Statement (.wrArgLevel v) := fun _ => accessWord_and_rowMask _ _ v
theorem wrArgDest (v : Word) : Statement (.wrArgDest v) := fun _ => accessWord_and_rowMask _ _ v
theorem wrArgSrc (v : Word) : Statement (.wrArgSrc v) := fun _ => accessWord_and_rowMask _ _ v
theorem wrResult (v : Word) : Statement (.wrResult v) := fun _ => accessWord_and_rowMask _ _ v
theorem wrTbusAddr (v : Word) : Statement (.wrTbusAddr v) := fun _ => accessWord_and_rowMask _ _ v
theorem wrRxData (v : Word) : Statement (.wrRxData v) := fun _ => accessWord_and_rowMask _ _ v
theorem wrRxCount (v : Word) : Statement (.wrRxCount v) := fun _ => accessWord_and_rowMask _ _ v
theorem wrTxData (v : Word) : Statement (.wrTxData v) := fun _ => accessWord_and_rowMask _ _ v
theorem wrTxCount (v : Word) : Statement (.wrTxCount v) := fun _ => accessWord_and_rowMask _ _ v
theorem wrCrcValue (v : Word) : Statement (.wrCrcValue v) := fun _ => accessWord_and_rowMask _ _ v
theorem wrCrcData (v : Word) : Statement (.wrCrcData v) := fun _ => accessWord_and_rowMask _ _ v
theorem wrCrcSwap (v : Word) : Statement (.wrCrcSwap v) := fun _ => accessWord_and_rowMask _ _ v
theorem wrLastEvent (v : Word) : Statement (.wrLastEvent v) := fun _ => accessWord_and_rowMask _ _ v
theorem wrCfgLevels (v : Word) : Statement (.wrCfgLevels v) := fun _ => accessWord_and_rowMask _ _ v
theorem wrCfgOutputs (v : Word) : Statement (.wrCfgOutputs v) := fun _ => accessWord_and_rowMask _ _ v
theorem wrCfgInputs (v : Word) : Statement (.wrCfgInputs v) := fun _ => accessWord_and_rowMask _ _ v
theorem wrCfgRxmax (v : Word) : Statement (.wrCfgRxmax v) := fun _ => accessWord_and_rowMask _ _ v
theorem wrCfgTxmax (v : Word) : Statement (.wrCfgTxmax v) := fun _ => accessWord_and_rowMask _ _ v
theorem unmapped54 (w : Bool) (off : Offset) (v : Word) : Statement (.unmapped54 w off v) := fun h => by
  show accessWord w off v &&& accessWord false 0xFC#8 0#32 = accessWord false 0x54#8 0#32
  rw [accessWord_and, ((wellFormed_unmapped54 w off v).mp h).1, Bool.and_false, BitVec.and_zero]
theorem unmapped58 (w : Bool) (off : Offset) (v : Word) : Statement (.unmapped58 w off v) := fun h => by
  show accessWord w off v &&& accessWord false 0xF8#8 0#32 = accessWord false 0x58#8 0#32
  rw [accessWord_and, ((wellFormed_unmapped58 w off v).mp h).1, Bool.and_false, BitVec.and_zero]
theorem unmapped60 (w : Bool) (off : Offset) (v : Word) : Statement (.unmapped60 w off v) := fun h => by
  show accessWord w off v &&& accessWord false 0xE0#8 0#32 = accessWord false 0x60#8 0#32
  rw [accessWord_and, ((wellFormed_unmapped60 w off v).mp h).1, Bool.and_false, BitVec.and_zero]
theorem unmapped80 (w : Bool) (off : Offset) (v : Word) : Statement (.unmapped80 w off v) := fun h => by
  show accessWord w off v &&& accessWord false 0x80#8 0#32 = accessWord false 0x80#8 0#32
  rw [accessWord_and, ((wellFormed_unmapped80 w off v).mp h).1, Bool.and_false, BitVec.and_zero]

end Sys2Proof.Laws.EncodesInRow
end

