-- ==== Sys2Proof/Laws/Step.lean ====
section
/-! SUPPORT. What a step can do, said once: hold the state, reset, answer a bus error before decode, or run the decoded
instruction. -/

namespace Sys2Proof.Machine

theorem erredBeforeDecode_iff (off : Offset) (n : Nat) :
    erredBeforeDecode off n = true ↔ n ≠ 4 ∨ off.toNat % 4 ≠ 0 := by
  simp [erredBeforeDecode]

/-- Serving an access: a bus error before decode, a word the decoder refuses (also a bus error), or the decoded instruction
(R86, R290). -/
theorem serveAccess_cases (w : Bool) (off : Offset) (n : Nat) (v : Word) (s : State) :
    (erredBeforeDecode off n = true ∧ serveAccess w off n v s = .next (raiseBusError s w)) ∨
    (erredBeforeDecode off n = false ∧ ∃ e, decode (accessWord w off v) = .error e ∧
      serveAccess w off n v s = .next (raiseBusError s w)) ∨
    (erredBeforeDecode off n = false ∧ ∃ i, decode (accessWord w off v) = .ok i ∧
      serveAccess w off n v s = exec i s) := by
  cases he : erredBeforeDecode off n
  · right
    cases hd : decode (accessWord w off v) with
    | error e => exact .inl ⟨rfl, e, rfl, by simp only [serveAccess, he, hd]; rfl⟩
    | ok i => exact .inr ⟨rfl, i, rfl, by simp only [serveAccess, he, hd]; rfl⟩
  · exact .inl ⟨rfl, by simp only [serveAccess, he]; rfl⟩

/-- Everything a step that answers a next state can do (R30, R86, R290, R370): hold, reset, or serve the first pending access,
which is a bus error or the instruction its access word decodes to. -/
theorem step_cases {s t : State} (h : step s = .next t) :
    (s.pending = [] ∧ t = s) ∨
    (∃ rest, s.pending = .rst :: rest ∧ t = (State.resetOf s.build).withPending rest) ∨
    (∃ w off n v rest, s.pending = (if w then HostStep.memWrite off n v else .memRead off n) :: rest ∧ (w = false → v = 0#32) ∧
      (((erredBeforeDecode off n = true ∨ ∃ e, decode (accessWord w off v) = .error e) ∧
          t = raiseBusError (s.withPending rest) w) ∨
        (erredBeforeDecode off n = false ∧
          ∃ i, decode (accessWord w off v) = .ok i ∧ exec i (s.withPending rest) = .next t))) := by
  have serve : ∀ (w : Bool) (off : Offset) (n : Nat) (v : Word) (u : State), serveAccess w off n v u = .next t →
      ((erredBeforeDecode off n = true ∨ ∃ e, decode (accessWord w off v) = .error e) ∧ t = raiseBusError u w) ∨
      (erredBeforeDecode off n = false ∧ ∃ i, decode (accessWord w off v) = .ok i ∧ exec i u = .next t) := by
    intro w off n v u hs
    rcases serveAccess_cases w off n v u with ⟨he, hu⟩ | ⟨-, e, hd, hu⟩ | ⟨he, i, hd, hu⟩ <;> rw [hu] at hs
    · exact .inl ⟨.inl he, (Host.Outcome.next.inj hs).symm⟩
    · exact .inl ⟨.inr ⟨e, hd⟩, (Host.Outcome.next.inj hs).symm⟩
    · exact .inr ⟨he, i, hd, hs⟩
  unfold step at h
  split at h
  · exact .inl ⟨‹_›, (Host.Outcome.next.inj h).symm⟩
  · exact .inr (.inl ⟨_, ‹_›, (Host.Outcome.next.inj h).symm⟩)
  · exact .inr (.inr ⟨false, _, _, 0#32, _, ‹_›, fun _ => rfl, serve _ _ _ _ _ h⟩)
  · exact .inr (.inr ⟨true, _, _, _, _, ‹_›, fun hw => absurd hw (by decide), serve _ _ _ _ _ h⟩)

end Sys2Proof.Machine
end

