-- ==== Sys2Proof/Tests/Slice0.lean ====
section
/-! SUPPORT. The model's own tests: ill-formed instructions refused, every row of the opcode table decoded from a word written
out from 30_encoding.md R101, R102 and R110, one-step vectors of 95_test_vectors.md by their numbers there, and a witness for
the hypotheses of each statement. -/

namespace Sys2Proof.Tests

open Sys2Proof Sys2Proof.Machine

/-- The placeholder build P_T of 95_test_vectors.md section 1. -/
def ptBuild : Build where
  numLevels := 8
  numOutputs := 255
  numInputs := 255
  rxMax := 1024
  txMax := 64
  dumpLevel := 0#3
  tag2 := 0x58#8
  txHdr := #v[0xA0#8, 0xA1#8, 0xA2#8, 0xA3#8, 0xA4#8, 0xA5#8]
  cmdSet := #v[0xC1#8, 0xC2#8]
  initFrame := #v[0xE0#8, 0xE1#8, 0xE2#8, 0xE3#8, 0xE4#8, 0xE5#8, 0xE6#8, 0xE7#8, 0xE8#8, 0xE9#8, 0xEA#8, 0xEB#8, 0xEC#8,
    0xED#8, 0xEE#8, 0xEF#8, 0xF0#8, 0xF1#8, 0xF2#8, 0xF3#8, 0xF4#8, 0xF5#8, 0xF6#8]
  dumpDecoder := .standard

/-- P_T at the lower ends of R8's ranges. -/
def smallBuild : Build := { ptBuild with numLevels := 1, numOutputs := 1, numInputs := 1, rxMax := 21, txMax := 24 }

/-- P_T at the upper ends of R8's ranges. -/
def largeBuild : Build :=
  { ptBuild with numOutputs := 65536, numInputs := 65536, rxMax := 4194304, txMax := 4194304, dumpLevel := 7#3 }

/-- S_RST of 95_test_vectors.md section 1. -/
def sRst : State := State.resetOf ptBuild

/-- S_HS of 95_test_vectors.md section 1. -/
def sHs : State := { sRst with hsDone := true, lastEvent := 0x00000001#32 }

/-- The state with the operands of a matrix command or SET_XP. -/
def withArgs (s : State) (c : Level) (d x : PublicId) : State := { s with argLevel := c, argDest := d, argSrc := x }

/-- S_HS with a frame in RX. -/
def received (f : List Byte) : State := { sHs with rx := f }

/-- The outcome is a next state with the property. -/
def gives (o : Host.Outcome State Fault Refusal) (p : State → Bool) : Bool :=
  match o with
  | .next t => p t
  | _ => false

/-- The state an instruction leaves. -/
def after (i : Instr) (s : State) : State :=
  match exec i s with
  | .next t => t
  | _ => s

def banner : List Byte := [0x57#8, 0x65#8, 0x6C#8, 0x63#8, 0x6F#8, 0x6D#8, 0x65#8]

/-- A tagged 20-byte frame of P_T from its length byte, its bytes 12 to 17 and its last two bytes. -/
def xpFrame (len d1 d0 s1 s0 m1 m0 c0 c1 : Byte) : List Byte :=
  [0xA0#8, 0xA1#8, 0xA2#8, 0xA3#8, 0xA4#8, 0xA5#8, len, 0x4E#8, 0x4B#8, 0x58#8, 0x00#8, 0x00#8, d1, d0, s1, s0, m1, m0, c0, c1]

/-- XP(0005,0003,0001). -/
def xpGood : List Byte := xpFrame 0x0D#8 0x00#8 0x05#8 0x00#8 0x03#8 0x00#8 0x01#8 0x72#8 0xFF#8

/-- XP(00FE,00FE,0080): the top level, destination and source of P_T. -/
def xpTop : List Byte := xpFrame 0x0D#8 0x00#8 0xFE#8 0x00#8 0xFE#8 0x00#8 0x80#8 0xC6#8 0xBB#8

/-- A tagged dump frame of P_T from its length byte and its bytes from 16 on. -/
def dumpFrame (len : Byte) (rest : List Byte) : List Byte :=
  [0xA0#8, 0xA1#8, 0xA2#8, 0xA3#8, 0xA4#8, 0xA5#8, len, 0x4E#8, 0x4B#8, 0x58#8, 0x00#8, 0x00#8, 0x00#8, 0x00#8, 0x00#8, 0x00#8]
    ++ rest

/-- DUMP0. -/
def dump0 : List Byte := dumpFrame 0x0B#8 [0xEB#8, 0x15#8]

/-- DUMP3B. -/
def dump3b : List Byte :=
  dumpFrame 0x14#8 [0x09#8, 0x00#8, 0x04#8, 0x00#8, 0xFF#8, 0xFF#8, 0x00#8, 0x01#8, 0x00#8, 0x71#8, 0xC7#8]

/-! Well-formedness: each check refuses an ill-formed instruction (R101, R111). -/

theorem test_wf_cmdIllegal : ¬WellFormed (.cmdIllegal 0x09#32) ∧ WellFormed (.cmdIllegal 0x0A#32) ∧
    WellFormed (.cmdIllegal 0x100#32) := by decide

theorem test_wf_unmapped_offset : ¬WellFormed (.unmapped54 true 0x58#8 0#32) ∧ ¬WellFormed (.unmapped58 true 0x60#8 0#32) ∧
    ¬WellFormed (.unmapped60 true 0x80#8 0#32) ∧ ¬WellFormed (.unmapped80 true 0x7C#8 0#32) := by decide

theorem test_wf_unmapped_misaligned : ¬WellFormed (.unmapped54 true 0x55#8 0#32) ∧
    ¬WellFormed (.unmapped58 true 0x5E#8 0#32) ∧ ¬WellFormed (.unmapped60 true 0x7F#8 0#32) ∧
    ¬WellFormed (.unmapped80 true 0xFE#8 0#32) := by decide

theorem test_wf_unmapped_read_data : ¬WellFormed (.unmapped54 false 0x54#8 1#32) ∧
    ¬WellFormed (.unmapped58 false 0x5C#8 1#32) ∧ ¬WellFormed (.unmapped60 false 0x7C#8 1#32) ∧
    ¬WellFormed (.unmapped80 false 0xFC#8 1#32) := by decide

theorem test_wf_unmapped_write_data : WellFormed (.unmapped54 true 0x54#8 1#32) ∧ WellFormed (.unmapped58 true 0x5C#8 1#32) ∧
    WellFormed (.unmapped60 true 0x7C#8 1#32) ∧ WellFormed (.unmapped80 true 0xFC#8 1#32) := by decide

/-! Decoding: a word for every row, bit 40 the W field, bits 39:32 the register's offset, bits 31:0 the data. -/

theorem test_decode_commands_low : decodeTableWord 48 0x10800000000 = some .nop ∧
    decodeTableWord 48 0x10800000001 = some .rxCommit ∧ decodeTableWord 48 0x10800000002 = some .rxClear ∧
    decodeTableWord 48 0x10800000003 = some .txClear ∧ decodeTableWord 48 0x10800000004 = some .setXp := by decide

theorem test_decode_commands_high : decodeTableWord 48 0x10800000005 = some .mxGet ∧
    decodeTableWord 48 0x10800000006 = some .mxSet ∧ decodeTableWord 48 0x10800000007 = some .mxClear ∧
    decodeTableWord 48 0x10800000008 = some .crcInit ∧ decodeTableWord 48 0x10800000009 = some .linkDown := by decide

theorem test_decode_illegal_commands : decodeTableWord 48 0x1080000000A = some (.cmdIllegal 0x0A#32) ∧
    decodeTableWord 48 0x10800000105 = some (.cmdIllegal 0x105#32) ∧
    decodeTableWord 48 0x10880000000 = some (.cmdIllegal 0x80000000#32) := by decide

theorem test_decode_reads_00_to_1C : decodeTableWord 48 0x00000000000 = some .rdCtrl ∧
    decodeTableWord 48 0x00400000000 = some .rdStatus ∧ decodeTableWord 48 0x00800000000 = some .rdCmd ∧
    decodeTableWord 48 0x00C00000000 = some .rdArgLevel ∧ decodeTableWord 48 0x01000000000 = some .rdArgDest ∧
    decodeTableWord 48 0x01400000000 = some .rdArgSrc ∧ decodeTableWord 48 0x01800000000 = some .rdResult ∧
    decodeTableWord 48 0x01C00000000 = some .rdTbusAddr := by decide

theorem test_decode_reads_20_to_3C : decodeTableWord 48 0x02000000000 = some .rdRxData ∧
    decodeTableWord 48 0x02400000000 = some .rdRxCount ∧ decodeTableWord 48 0x02800000000 = some .rdTxData ∧
    decodeTableWord 48 0x02C00000000 = some .rdTxCount ∧ decodeTableWord 48 0x03000000000 = some .rdCrcValue ∧
    decodeTableWord 48 0x03400000000 = some .rdCrcData ∧ decodeTableWord 48 0x03800000000 = some .rdCrcSwap ∧
    decodeTableWord 48 0x03C00000000 = some .rdLastEvent := by decide

theorem test_decode_reads_40_to_50 : decodeTableWord 48 0x04000000000 = some .rdCfgLevels ∧
    decodeTableWord 48 0x04400000000 = some .rdCfgOutputs ∧ decodeTableWord 48 0x04800000000 = some .rdCfgInputs ∧
    decodeTableWord 48 0x04C00000000 = some .rdCfgRxmax ∧ decodeTableWord 48 0x05000000000 = some .rdCfgTxmax := by decide

theorem test_decode_writes_00_to_1C : decodeTableWord 48 0x10000000F07 = some (.wrCtrl 0xF07#32) ∧
    decodeTableWord 48 0x104000003FC = some (.wrStatus 0x3FC#32) ∧
    decodeTableWord 48 0x10C00000007 = some (.wrArgLevel 7#32) ∧
    decodeTableWord 48 0x11000000006 = some (.wrArgDest 6#32) ∧ decodeTableWord 48 0x11400000004 = some (.wrArgSrc 4#32) ∧
    decodeTableWord 48 0x11800000005 = some (.wrResult 5#32) ∧
    decodeTableWord 48 0x11C00000012 = some (.wrTbusAddr 0x12#32) := by decide

theorem test_decode_writes_20_to_3C : decodeTableWord 48 0x120000000A0 = some (.wrRxData 0xA0#32) ∧
    decodeTableWord 48 0x12400000001 = some (.wrRxCount 1#32) ∧ decodeTableWord 48 0x12800000055 = some (.wrTxData 0x55#32) ∧
    decodeTableWord 48 0x12C00000001 = some (.wrTxCount 1#32) ∧
    decodeTableWord 48 0x130ABCD1234 = some (.wrCrcValue 0xABCD1234#32) ∧
    decodeTableWord 48 0x13400000031 = some (.wrCrcData 0x31#32) ∧
    decodeTableWord 48 0x13800001111 = some (.wrCrcSwap 0x1111#32) ∧
    decodeTableWord 48 0x13CFFFFFFFF = some (.wrLastEvent 0xFFFFFFFF#32) := by decide

theorem test_decode_writes_40_to_50 : decodeTableWord 48 0x14000000003 = some (.wrCfgLevels 3#32) ∧
    decodeTableWord 48 0x14400000003 = some (.wrCfgOutputs 3#32) ∧
    decodeTableWord 48 0x14800000003 = some (.wrCfgInputs 3#32) ∧ decodeTableWord 48 0x14C00000003 = some (.wrCfgRxmax 3#32) ∧
    decodeTableWord 48 0x15000000003 = some (.wrCfgTxmax 3#32) := by decide

theorem test_decode_unmapped : decodeTableWord 48 0x05400000000 = some (.unmapped54 false 0x54#8 0#32) ∧
    decodeTableWord 48 0x15C00000001 = some (.unmapped58 true 0x5C#8 1#32) ∧
    decodeTableWord 48 0x16000000001 = some (.unmapped60 true 0x60#8 1#32) ∧
    decodeTableWord 48 0x07C00000000 = some (.unmapped60 false 0x7C#8 0#32) ∧
    decodeTableWord 48 0x1FC12345678 = some (.unmapped80 true 0xFC#8 0x12345678#32) := by decide

theorem test_decode_refuses : decodeTableWord 48 0x00200000000 = none ∧ decodeTableWord 48 0x20000000000 = none := by decide

/-! The CRC function: vectors of 95_test_vectors.md section 3.1 (R231, R232, R240). -/

theorem test_crc_empty_and_one_byte : crc16 [] = 0xFFFF#16 ∧ crc16 [0x00#8] = 0x40BF#16 ∧ crc16 [0x01#8] = 0x807E#16 ∧
    crc16 [0x80#8] = 0xE0BE#16 := by decide

theorem test_crc_check_value : crc16 [0x31#8, 0x32#8, 0x33#8, 0x34#8, 0x35#8, 0x36#8, 0x37#8, 0x38#8, 0x39#8] = 0x4B37#16 := by
  decide +kernel

/-! Commands without operands (vectors H-10, H-24, H-26, H-27, C-4, H-7). -/

theorem test_nop : gives (exec .nop sHs) (fun t => t == { sHs with reply := .writeOk }) = true := by decide

theorem test_rxClear : gives (exec .rxClear { sHs with rx := [0x01#8, 0x02#8], rxOvf := true })
    (fun t => t == { sHs with reply := .writeOk }) = true := by decide

theorem test_txClear : gives (exec .txClear { sHs with tx := [0x01#8, 0x02#8] })
    (fun t => t == { sHs with reply := .writeOk }) = true := by decide

theorem test_linkDown : gives (exec .linkDown { sHs with rx := [0x01#8], rxOvf := true, tx := [0x02#8], matrix := [(1, 5#17)] })
    (fun t => t == { sHs with hsDone := false, tx := [0x02#8], matrix := [(1, 5#17)], reply := .writeOk }) = true := by decide

theorem test_crcInit : gives (exec .crcInit { sRst with crc := 0x1234#16 }) (fun t => t == { sRst with reply := .writeOk }) = true := by
  decide

theorem test_cmdIllegal : gives (exec (.cmdIllegal 0xFF#32) sRst)
    (fun t => statusWord t == 0x00000080#32 && t.matrix == []) = true := by decide

/-! SET_XP (vectors E-1, E-8, E-15). -/

theorem test_setXp_frame : gives (exec .setXp (withArgs sRst 0#3 6#17 4#17)) (fun t =>
    t.tx == [0xA0#8, 0xA1#8, 0xA2#8, 0xA3#8, 0xA4#8, 0xA5#8, 0x11#8, 0x4E#8, 0x4B#8, 0x58#8, 0xFE#8, 0xC1#8, 0xC2#8, 0x00#8,
      0x05#8, 0x00#8, 0x03#8, 0x00#8, 0x00#8, 0x00#8, 0x01#8, 0x00#8, 0x2D#8, 0x9B#8] && statusWord t == 0#32) = true := by decide +kernel

theorem test_setXp_rejected : gives (exec .setXp { withArgs sRst 0#3 0#17 4#17 with tx := List.replicate 48 0x00#8 })
    (fun t => statusWord t == 0x00000080#32 && t.tx.length == 48) = true := by decide

/-! Matrix commands (vectors M-2, M-6, M-8, M-4). -/

theorem test_mxGet : gives (exec .mxGet { withArgs sRst 2#3 10#17 0#17 with matrix := [(2 * 131072 + 10, 7#17)] })
    (fun t => t.result == 7#17 && statusWord t == 0#32) = true := by decide

theorem test_mxGet_bounds : gives (exec .mxGet { withArgs sRst 0#3 256#17 0#17 with result := 7#17 })
    (fun t => t.result == 0#17 && statusWord t == 0x00000040#32) = true := by decide

theorem test_mxSet : gives (exec .mxSet (withArgs sRst 2#3 10#17 7#17))
    (fun t => t.cell 2#3 10 == 7#17 && t.cell 2#3 11 == 0#17 && t.cell 0#3 10 == 0#17) = true := by decide

theorem test_mxSet_bounds : gives (exec .mxSet (withArgs sRst 0#3 1#17 256#17))
    (fun t => t.cell 0#3 1 == 0#17 && statusWord t == 0x00000040#32) = true := by decide

theorem test_mxClear : gives (exec .mxClear { sRst with matrix := [(1, 5#17)] }) (fun t => t.cell 0#3 1 == 0#17) = true := by decide

/-! RX_COMMIT (vectors F-20 and F-30; the other vectors stand among the witnesses below). -/

theorem test_rxCommit_xp : gives (exec .rxCommit { received xpGood with ctrl := 3#32 })
    (fun t => t.lastEvent == 0x00003002#32 && statusWord t == 0x00000009#32 && t.cell 0#3 6 == 4#17 && t.rx == []) = true := by
  decide +kernel

theorem test_rxCommit_dump : gives (exec .rxCommit { received dump3b with ctrl := 3#32 })
    (fun t => t.lastEvent == 0x00001803#32 && statusWord t == 0x00000051#32 && t.cell 0#3 1 == 5#17 && t.cell 0#3 2 == 0#17
      && t.cell 0#3 3 == 0#17) = true := by decide +kernel

/-! Reads (vector H-1 with values set to tell the registers apart; C-3, I-1, H-29). -/

/-- The reply of an instruction is a read of the value. -/
def reads (i : Instr) (s : State) (v : Word) : Bool := gives (exec i s) fun t => t.reply == .readOk v

/-- A state whose registers all differ. -/
def sMix : State :=
  { withArgs sRst 5#3 0x10006#17 0x1FFFF#17 with
    ctrl := 0x00000104#32, result := 0x00009#17, tbusAddr := 0x12#8, crc := 0xABCD#16, lastEvent := 0x00003002#32,
    rx := [0x01#8, 0x02#8], tx := [0xE0#8, 0xE1#8, 0xE2#8], sticky := { sRst.sticky with evHs := true } }

theorem test_rdCtrl : reads .rdCtrl sMix 0x00000104#32 = true := by decide
theorem test_rdStatus : reads .rdStatus sMix 0x00000404#32 = true := by decide
theorem test_rdCmd : reads .rdCmd sMix 0#32 = true := by decide
theorem test_rdArgLevel : reads .rdArgLevel sMix 5#32 = true := by decide
theorem test_rdArgDest : reads .rdArgDest sMix 0x00010006#32 = true := by decide
theorem test_rdArgSrc : reads .rdArgSrc sMix 0x0001FFFF#32 = true := by decide
theorem test_rdResult : reads .rdResult sMix 9#32 = true := by decide
theorem test_rdTbusAddr : reads .rdTbusAddr sMix 0x12#32 = true := by decide
theorem test_rdRxData : reads .rdRxData sMix 0#32 = true := by decide
theorem test_rdRxCount : reads .rdRxCount sMix 2#32 = true := by decide
theorem test_rdTxData : gives (exec .rdTxData sMix) (fun t => t.reply == .readOk 0xE0#32 && t.tx == [0xE1#8, 0xE2#8]) = true := by decide
theorem test_rdTxData_empty : reads .rdTxData sRst 0x00000100#32 = true := by decide
theorem test_rdTxCount : reads .rdTxCount sMix 3#32 = true := by decide
theorem test_rdCrcValue : reads .rdCrcValue sMix 0x0000ABCD#32 = true := by decide
theorem test_rdCrcData : reads .rdCrcData sMix 0#32 = true := by decide
theorem test_rdCrcSwap : reads .rdCrcSwap sMix 0x0000CDAB#32 = true := by decide
theorem test_rdLastEvent : reads .rdLastEvent sMix 0x00003002#32 = true := by decide
theorem test_rdCfgLevels : reads .rdCfgLevels sMix 8#32 = true := by decide
theorem test_rdCfgOutputs : reads .rdCfgOutputs sMix 0xFF#32 = true := by decide
theorem test_rdCfgInputs : reads .rdCfgInputs { sMix with build := largeBuild } 0x10000#32 = true := by decide
theorem test_rdCfgRxmax : reads .rdCfgRxmax sMix 0x400#32 = true := by decide
theorem test_rdCfgTxmax : reads .rdCfgTxmax sMix 0x40#32 = true := by decide

/-! Writes (vectors H-2, H-11, H-3 to H-6, H-25, H-28, C-2, C-3, H-19 to H-22, C-8). -/

theorem test_wrCtrl : gives (exec (.wrCtrl 0xFFFFFFFF#32) sRst) (fun t => t.ctrl == 0x00000F07#32) = true := by decide
theorem test_wrStatus : gives (exec (.wrStatus 0xFFFFFFFF#32) { sHs with sticky := ⟨true, true, true, true, true, true, true, true⟩ })
    (fun t => statusWord t == 0x00000001#32) = true := by decide
theorem test_wrStatus_keeps : gives (exec (.wrStatus 0x7F#32) { sRst with sticky := { sRst.sticky with errCmd := true } })
    (fun t => statusWord t == 0x00000080#32) = true := by decide
theorem test_wrArgLevel : gives (exec (.wrArgLevel 0xB#32) sRst) (fun t => t.argLevel == 3#3) = true := by decide
theorem test_wrArgDest : gives (exec (.wrArgDest 0x00020006#32) sRst) (fun t => t.argDest == 6#17) = true := by decide
theorem test_wrArgSrc : gives (exec (.wrArgSrc 0xFFFFFFFF#32) sRst) (fun t => t.argSrc == 0x1FFFF#17) = true := by decide
theorem test_wrTbusAddr : gives (exec (.wrTbusAddr 0x100#32) sRst) (fun t => t.tbusAddr == 0#8) = true := by decide
theorem test_wrRxData : gives (exec (.wrRxData 0x1FF#32) { sRst with rx := [0x01#8] })
    (fun t => t.rx == [0x01#8, 0xFF#8] && !t.rxOvf) = true := by decide
theorem test_wrRxData_full : gives (exec (.wrRxData 2#32) { sRst with build := smallBuild, rx := List.replicate 21 0x01#8 })
    (fun t => t.rx.length == 21 && statusWord t == 0x00000002#32) = true := by decide
theorem test_wrCrcValue : gives (exec (.wrCrcValue 0xABCD1234#32) sRst) (fun t => t.crc == 0x1234#16) = true := by decide
theorem test_wrCrcData : gives (exec (.wrCrcData 0x00000100#32) sRst) (fun t => t.crc == 0x40BF#16) = true := by decide

/-- A write that is ignored: the state as before, and the write accepted. -/
def ignored (i : Instr) : Bool := gives (exec i sMix) fun t => t == { sMix with reply := .writeOk }

theorem test_wrResult : ignored (.wrResult 5#32) = true := by decide
theorem test_wrRxCount : ignored (.wrRxCount 5#32) = true := by decide
theorem test_wrTxData : ignored (.wrTxData 0x55#32) = true := by decide
theorem test_wrTxCount : ignored (.wrTxCount 5#32) = true := by decide
theorem test_wrCrcSwap : ignored (.wrCrcSwap 0x1111#32) = true := by decide
theorem test_wrLastEvent : ignored (.wrLastEvent 0xFFFFFFFF#32) = true := by decide
theorem test_wrCfgLevels : ignored (.wrCfgLevels 3#32) = true := by decide
theorem test_wrCfgOutputs : ignored (.wrCfgOutputs 3#32) = true := by decide
theorem test_wrCfgInputs : ignored (.wrCfgInputs 3#32) = true := by decide
theorem test_wrCfgRxmax : ignored (.wrCfgRxmax 3#32) = true := by decide
theorem test_wrCfgTxmax : ignored (.wrCfgTxmax 3#32) = true := by decide

/-! Bus errors and reset, as steps (vectors H-14 to H-18, X-1). -/

theorem test_unmapped54 : gives (exec (.unmapped54 false 0x54#8 0#32) sRst)
    (fun t => t.reply == .readError 0#32 && statusWord t == 0x00000200#32) = true := by decide
theorem test_unmapped58 : gives (exec (.unmapped58 false 0x58#8 0#32) sRst)
    (fun t => t.reply == .readError 0#32 && statusWord t == 0x00000200#32) = true := by decide
theorem test_unmapped60 : gives (exec (.unmapped60 true 0x60#8 7#32) sRst)
    (fun t => t.reply == .writeError && statusWord t == 0x00000200#32) = true := by decide
theorem test_unmapped80 : gives (exec (.unmapped80 true 0xFC#8 0x12345678#32) sRst)
    (fun t => t == { sRst with sticky := { sRst.sticky with errBus := true }, reply := .writeError }) = true := by decide
theorem test_step_misaligned_read : gives (step { sRst with pending := [.memRead 0x02#8 4] })
    (fun t => t.reply == .readError 0#32 && statusWord t == 0x00000200#32) = true := by decide
theorem test_step_narrow_write : gives (step { sRst with pending := [.memWrite 0x08#8 1 7#32], matrix := [(1, 5#17)] })
    (fun t => t.cell 0#3 1 == 5#17 && statusWord t == 0x00000200#32) = true := by decide
theorem test_step_narrow_pop : gives (step { sRst with pending := [.memRead 0x28#8 2], tx := [0x01#8] })
    (fun t => t.tx == [0x01#8] && t.reply == .readError 0#32) = true := by decide
theorem test_step_reset : gives (step { sMix with pending := [.rst, .memRead 0x00#8 4] })
    (fun t => t == { sRst with pending := [.memRead 0x00#8 4] }) = true := by decide
theorem test_withFetchWord : gives (step (State.reset.withFetchWord 48 0x10000000F07)) (fun t => t.ctrl == 0xF07#32) = true := by
  decide

/-! Witnesses: for each statement with hypotheses, a state and operands that meet them together, clause by clause, at a boundary
of the clause's range where it has one. -/

theorem test_witness_DecodeOfEncodeIsIdentity : WellFormed (.cmdIllegal 0x0A#32) ∧ WellFormed (.unmapped54 false 0x54#8 0#32) ∧
    WellFormed (.unmapped80 true 0xFC#8 0xFFFFFFFF#32) := by decide

theorem test_witness_EveryAccessWordIsOneInstruction : isAccessWord 0x00000000000#41 ∧ isAccessWord 0x1FCFFFFFFFF#41 := by decide

theorem test_witness_DecoderFollowsMatchAndMask_decoded : decode 0x1080000000A#41 = .ok (.cmdIllegal 0x0A#32) ∧
    decode 0x05400000000#41 = .ok (.unmapped54 false 0x54#8 0#32) := ⟨rfl, rfl⟩

theorem test_witness_DecoderFollowsMatchAndMask_row : (∀ v, Instr.linkDown ≠ .cmdIllegal v) ∧
    0x10800000009#41 &&& rowMask .linkDown = rowMatch .linkDown := ⟨fun _ h => Instr.noConfusion h, by decide⟩

theorem test_witness_DecoderFollowsMatchAndMask_illegal :
    0x1080000000A#41 &&& rowMask (.cmdIllegal 0x0A#32) = rowMatch (.cmdIllegal 0x0A#32) ∧
    ∀ j, (∀ v, j ≠ .cmdIllegal v) → 0x1080000000A#41 &&& rowMask j ≠ rowMatch j := by
  refine ⟨by decide, fun j hj => ?_⟩
  cases j with
  | cmdIllegal v => exact absurd rfl (hj v)
  | _ => simp only [rowMask, rowMatch]; decide

theorem test_witness_StepRunsDecodedInstruction_read : (0x54#8 : Offset).toNat % 4 = 0 ∧
    { sRst with pending := [.memRead 0x54#8 4] }.pending = .memRead 0x54#8 4 :: [] ∧
    decode (accessWord false 0x54#8 0#32) = .ok (.unmapped54 false 0x54#8 0#32) := ⟨by decide, rfl, rfl⟩

theorem test_witness_StepRunsDecodedInstruction_write : (0x08#8 : Offset).toNat % 4 = 0 ∧
    { sRst with pending := [.memWrite 0x08#8 4 1#32] }.pending = .memWrite 0x08#8 4 1#32 :: [] ∧
    decode (accessWord true 0x08#8 1#32) = .ok .rxCommit := ⟨by decide, rfl, rfl⟩

theorem test_witness_FetchWordRunsItsInstruction : isAccessWord 0x05000000000#41 ∧ decode 0x05000000000#41 = .ok .rdCfgTxmax :=
  ⟨by decide, rfl⟩

theorem test_witness_BusErrorSetsOnlyErrBus_read : (3 ≠ 4 ∨ (0x28#8 : Offset).toNat % 4 ≠ 0 ∨ 0x54 ≤ (0x28#8 : Offset).toNat) ∧
    { sRst with pending := [.memRead 0x28#8 3] }.pending = .memRead 0x28#8 3 :: [] := by decide

theorem test_witness_BusErrorSetsOnlyErrBus_write :
    (4 ≠ 4 ∨ (0x54#8 : Offset).toNat % 4 ≠ 0 ∨ 0x54 ≤ (0x54#8 : Offset).toNat) ∧
    { sRst with pending := [.memWrite 0x54#8 4 1#32] }.pending = .memWrite 0x54#8 4 1#32 :: [] := by decide

theorem test_witness_ResetStepRestoresResetValues :
    { sMix with pending := [.rst, .memRead 0x00#8 4] }.pending = .rst :: [.memRead 0x00#8 4] := by decide

theorem test_witness_EmptyHostListHoldsAndRstKeepsLaterSteps : sMix.pending = [] ∧ { sMix with pending := [.rst] }.pending = .rst :: [] := by decide

/-- A state that meets the invariant, with every component at work. -/
def sInv : State :=
  { sHs with
    ctrl := 0x00000F07#32, result := 255#17, lastEvent := 0x0007FF02#32, matrix := [(1, 5#17), (7 * 131072 + 255, 255#17)],
    rx := [0x01#8], tx := List.replicate 64 0x02#8, pending := [.memWrite 0x20#8 4 0xA0#32, .rst] }

theorem test_sInv_inv : Inv sInv :=
  ⟨by decide, by decide, by decide, by decide, by decide, by decide, by decide, by decide⟩

theorem test_witness_StepKeepsInvariant : Inv sInv ∧
    step sInv = .next { sInv with rx := [0x01#8, 0xA0#8], reply := .writeOk, pending := [.rst] } := ⟨test_sInv_inv, rfl⟩

theorem test_witness_StepKeepsBuild :
    step sInv = .next { sInv with rx := [0x01#8, 0xA0#8], reply := .writeOk, pending := [.rst] } := rfl

theorem test_witness_ResetSatisfiesInvariant : smallBuild.wf ∧ largeBuild.wf ∧ Config.defaultBuild.wf := by decide

/-- The instruction completes in the state `after` gives it, with the property. -/
abbrev leaves (i : Instr) (s : State) (p : State → Prop) : Prop := exec i s = .next (after i s) ∧ p (after i s)

theorem test_witness_OnlyListedWritersChangeMatrix_frames :
    leaves .rxCommit (received xpTop) (fun t => t.matrix ≠ (received xpTop).matrix) ∧
    leaves .rxCommit (received dump3b) (fun t => t.matrix ≠ (received dump3b).matrix) := ⟨⟨rfl, by decide⟩, rfl, by decide⟩

theorem test_witness_OnlyListedWritersChangeMatrix_commands :
    leaves .setXp { withArgs sRst 7#3 255#17 255#17 with ctrl := 4#32 } (fun t => t.matrix ≠ sRst.matrix) ∧
    leaves .mxSet (withArgs sRst 7#3 255#17 255#17) (fun t => t.matrix ≠ sRst.matrix) ∧
    leaves .mxClear sInv (fun t => t.matrix ≠ sInv.matrix) := ⟨⟨rfl, by decide⟩, ⟨rfl, by decide⟩, rfl, by decide⟩

theorem test_witness_RegistersHaveOnlyTheirWriters_operands :
    leaves (.wrCtrl 1#32) sRst (fun t => t.ctrl ≠ sRst.ctrl) ∧ leaves (.wrArgLevel 7#32) sRst (fun t => t.argLevel ≠ sRst.argLevel) ∧
    leaves (.wrArgDest 1#32) sRst (fun t => t.argDest ≠ sRst.argDest) ∧
    leaves (.wrArgSrc 1#32) sRst (fun t => t.argSrc ≠ sRst.argSrc) ∧
    leaves (.wrTbusAddr 0#32) sRst (fun t => t.tbusAddr ≠ sRst.tbusAddr) :=
  ⟨⟨rfl, by decide⟩, ⟨rfl, by decide⟩, ⟨rfl, by decide⟩, ⟨rfl, by decide⟩, rfl, by decide⟩

theorem test_witness_RegistersHaveOnlyTheirWriters_results :
    leaves .mxGet (withArgs sInv 0#3 1#17 0#17) (fun t => t.result ≠ sInv.result) ∧
    leaves .crcInit sMix (fun t => t.crc ≠ sMix.crc) ∧ leaves (.wrCrcValue 0#32) sRst (fun t => t.crc ≠ sRst.crc) ∧
    leaves (.wrCrcData 0#32) sRst (fun t => t.crc ≠ sRst.crc) ∧
    leaves .rxCommit (received []) (fun t => t.lastEvent ≠ sHs.lastEvent) :=
  ⟨⟨rfl, by decide⟩, ⟨rfl, by decide⟩, ⟨rfl, by decide⟩, ⟨rfl, by decide⟩, rfl, by decide⟩

theorem test_witness_RegistersHaveOnlyTheirWriters_rx :
    leaves (.wrRxData 1#32) sRst (fun t => t.rx ≠ sRst.rx) ∧ leaves .rxCommit sMix (fun t => t.rx ≠ sMix.rx) ∧
    leaves .rxClear sMix (fun t => t.rx ≠ sMix.rx) ∧ leaves .linkDown sMix (fun t => t.rx ≠ sMix.rx) :=
  ⟨⟨rfl, by decide⟩, ⟨rfl, by decide⟩, ⟨rfl, by decide⟩, rfl, by decide⟩

theorem test_witness_StickyBitsFallOnlyByWriteOneToClear : sMix.sticky.get .evHs = true ∧
    leaves (.wrStatus 4#32) sMix (fun t => t.sticky.get .evHs = false) := ⟨by decide, rfl, by decide⟩

theorem test_witness_HandshakeFlagRisesAndFallsOnlyByRule :
    leaves .rxCommit { sRst with rx := banner } (fun t => sRst.hsDone = false ∧ t.hsDone = true) ∧
    leaves .linkDown sHs (fun t => sHs.hsDone = true ∧ t.hsDone = false) := ⟨⟨rfl, by decide⟩, rfl, by decide⟩

theorem test_witness_TxTakesWholeFramesOrNothing :
    leaves .rdTxData sMix (fun t => t.tx ≠ sMix.tx) ∧ leaves .txClear sMix (fun t => t.tx ≠ sMix.tx) ∧
    leaves .rxCommit { sRst with rx := banner } (fun t => t.tx ≠ sRst.tx) ∧
    leaves .setXp { withArgs sRst 0#3 1#17 1#17 with build := smallBuild } (fun t => t.tx ≠ sRst.tx) :=
  ⟨⟨rfl, by decide⟩, ⟨rfl, by decide⟩, ⟨rfl, by decide⟩, rfl, by decide⟩

theorem test_witness_ReadsOtherThanTxDataChangeNothing : isPureRead .rdCtrl = true ∧ isPureRead .rdCfgTxmax = true := by decide

theorem test_witness_TxDataReadPopsOrReportsEmpty : sMix.tx = 0xE0#8 :: [0xE1#8, 0xE2#8] ∧ sRst.tx = [] := by decide

theorem test_witness_RxDataWritePushesOrOverflows :
    { sRst with build := smallBuild, rx := List.replicate 20 0x01#8 }.rx.length < smallBuild.rxMax ∧
    smallBuild.rxMax ≤ { sRst with build := smallBuild, rx := List.replicate 21 0x01#8 }.rx.length := by decide

theorem test_witness_ReadOnlyRegistersIgnoreWrites : Instr.wrCfgTxmax 3#32 ∈ [Instr.wrResult 3#32, .wrRxCount 3#32,
    .wrTxData 3#32, .wrTxCount 3#32, .wrCrcSwap 3#32, .wrLastEvent 3#32, .wrCfgLevels 3#32, .wrCfgOutputs 3#32,
    .wrCfgInputs 3#32, .wrCfgRxmax 3#32, .wrCfgTxmax 3#32] := by decide

theorem test_witness_IllegalCommandSetsErrCmd :
    ((0x0A#32 : Word).extractLsb' 8 24 ≠ 0#24 ∨ 0x0A ≤ ((0x0A#32 : Word).extractLsb' 0 8).toNat) ∧
    ((0x100#32 : Word).extractLsb' 8 24 ≠ 0#24 ∨ 0x0A ≤ ((0x100#32 : Word).extractLsb' 0 8).toNat) := by decide

theorem test_witness_UnmappedRowsAreBusErrors : Instr.unmapped80 true 0xFC#8 1#32 ∈ [Instr.unmapped54 true 0xFC#8 1#32,
    .unmapped58 true 0xFC#8 1#32, .unmapped60 true 0xFC#8 1#32, .unmapped80 true 0xFC#8 1#32] := by decide

theorem test_witness_MxGetReadsCellOrReportsBounds :
    ((withArgs sRst 7#3 255#17 0#17).argLevel.toNat < 8 ∧ 1 ≤ (withArgs sRst 7#3 255#17 0#17).argDest.toNat ∧
      (withArgs sRst 7#3 255#17 0#17).argDest.toNat ≤ sRst.build.numOutputs) ∧
    sRst.build.numOutputs < (withArgs sRst 7#3 256#17 0#17).argDest.toNat ∧
    (withArgs sRst 7#3 0#17 0#17).argDest.toNat = 0 ∧
    smallBuild.numLevels ≤ (withArgs sRst 1#3 1#17 0#17).argLevel.toNat := by decide

theorem test_witness_MxSetWritesOneCellOrReportsBounds : RoutingMatrix.wf sInv.matrix ∧
    ((withArgs sInv 7#3 255#17 255#17).argLevel.toNat < 8 ∧ 1 ≤ (withArgs sInv 7#3 255#17 255#17).argDest.toNat ∧
      (withArgs sInv 7#3 255#17 255#17).argDest.toNat ≤ sInv.build.numOutputs ∧
      (withArgs sInv 7#3 255#17 255#17).argSrc.toNat ≤ sInv.build.numInputs) ∧
    sInv.build.numInputs < (withArgs sInv 7#3 255#17 256#17).argSrc.toNat := by decide

/-- Instructions between MX_SET and MX_GET of (7, 255): a commit that is dropped, and SET_XP for the cell without OPT_WR. -/
def between : List Instr := [.rxCommit, .wrArgSrc 1#32, .wrCtrl 0x00000000#32, .txClear, .setXp, .linkDown]

theorem test_witness_SetThenGetReturnsTheSource : sInv.build.wf ∧
    RoutingMatrix.wf (withArgs sInv 7#3 255#17 0#17).matrix ∧
    (withArgs sInv 7#3 255#17 0#17).argLevel.toNat < sInv.build.numLevels ∧
    1 ≤ (withArgs sInv 7#3 255#17 0#17).argDest.toNat ∧
    (withArgs sInv 7#3 255#17 0#17).argDest.toNat ≤ sInv.build.numOutputs ∧
    (withArgs sInv 7#3 255#17 0#17).argSrc.toNat ≤ sInv.build.numInputs ∧
    gives (execList (.mxSet :: between) (withArgs sInv 7#3 255#17 0#17))
      (fun u => u.argLevel == 7#3 && u.argDest == 255#17) = true := by decide

theorem test_witness_SetThenGetReturnsTheSource_between : ∀ t, exec .mxSet (withArgs sInv 7#3 255#17 0#17) = .next t →
    cellUnwritten 7#3 255 between t := by
  intro t h
  obtain rfl := Host.Outcome.next.inj h
  intro _ h; obtain rfl := Host.Outcome.next.inj h
  refine ⟨(by decide : ¬commitWritesCell _ _ _ _), ?_⟩
  intro _ h; obtain rfl := Host.Outcome.next.inj h
  refine ⟨id, ?_⟩
  intro _ h; obtain rfl := Host.Outcome.next.inj h
  refine ⟨id, ?_⟩
  intro _ h; obtain rfl := Host.Outcome.next.inj h
  refine ⟨id, ?_⟩
  intro _ h; obtain rfl := Host.Outcome.next.inj h
  refine ⟨fun hw => absurd hw.1 (by decide), ?_⟩
  intro _ h; obtain rfl := Host.Outcome.next.inj h
  exact ⟨id, trivial⟩

theorem test_witness_CanonicalMatricesReadingAlikeAreEqual : RoutingMatrix.wf [(1, 5#17)] ∧
    ∀ k, readCell [(1, 5#17)] k = readCell [(1, 5#17)] k := ⟨by decide, fun _ => rfl⟩

theorem test_witness_SetXpFrameHasTheSpecLayout : 1 ≤ (1#17 : PublicId).toNat ∧ (1#17 : PublicId).toNat ≤ 65536 ∧
    1 ≤ (0x10000#17 : PublicId).toNat ∧ (0x10000#17 : PublicId).toNat ≤ 65536 := by decide

/-- SET_XP at the upper bounds of P_T, with exactly 24 bytes free. -/
def sSetXp : State := { withArgs sInv 7#3 255#17 255#17 with tx := List.replicate 40 0x02#8 }

theorem test_witness_SetXpAppendsOneFrame : RoutingMatrix.wf sSetXp.matrix ∧ sSetXp.argLevel.toNat < sSetXp.build.numLevels ∧
    1 ≤ sSetXp.argDest.toNat ∧ sSetXp.argDest.toNat ≤ sSetXp.build.numOutputs ∧ 1 ≤ sSetXp.argSrc.toNat ∧
    sSetXp.argSrc.toNat ≤ sSetXp.build.numInputs ∧ sSetXp.tx.length + 24 ≤ sSetXp.build.txMax := by decide

theorem test_witness_SetXpRejectionSetsOneErrorBit_operands :
    sSetXp.build.numOutputs < (withArgs sSetXp 7#3 256#17 255#17).argDest.toNat ∧
    (withArgs sSetXp 7#3 255#17 0#17).argSrc.toNat = 0 ∧
    sSetXp.build.numInputs < (withArgs sSetXp 7#3 255#17 256#17).argSrc.toNat := by decide

theorem test_witness_SetXpRejectionSetsOneErrorBit_room :
    sSetXp.argLevel.toNat < sSetXp.build.numLevels ∧ 1 ≤ sSetXp.argDest.toNat ∧ sSetXp.argDest.toNat ≤ sSetXp.build.numOutputs ∧
    1 ≤ sSetXp.argSrc.toNat ∧ sSetXp.argSrc.toNat ≤ sSetXp.build.numInputs ∧
    sSetXp.build.txMax < { sSetXp with tx := List.replicate 41 0x02#8 }.tx.length + 24 := by decide

theorem test_witness_ThirdSetXpDoesNotFitTheDefaultTx : (withArgs sRst 7#3 255#17 255#17).build.txMax = 64 ∧
    (withArgs sRst 7#3 255#17 255#17).tx = [] ∧ (withArgs sRst 7#3 255#17 255#17).argLevel.toNat < sRst.build.numLevels ∧
    1 ≤ (withArgs sRst 7#3 255#17 255#17).argDest.toNat ∧
    (withArgs sRst 7#3 255#17 255#17).argDest.toNat ≤ sRst.build.numOutputs ∧
    1 ≤ (withArgs sRst 7#3 255#17 255#17).argSrc.toNat ∧
    (withArgs sRst 7#3 255#17 255#17).argSrc.toNat ≤ sRst.build.numInputs := by decide

theorem test_witness_FrameCrcsIgnoreTheCrcRegister : (Instr.rxCommit = .rxCommit ∨ Instr.rxCommit = .setXp) ∧
    (Instr.setXp = .rxCommit ∨ Instr.setXp = .setXp) := by decide

/-- A short frame, 9 bytes (vector F-8). -/
def shortFrame : List Byte := [0x01#8, 0x02#8, 0x03#8, 0x04#8, 0x05#8, 0x06#8, 0x07#8, 0x08#8, 0x09#8]

theorem test_witness_CommitDropsBeforeTheShape_overflow_empty_notReady :
    { sHs with rxOvf := true }.rxOvf = true ∧ (sHs.rxOvf = false ∧ sHs.rx = []) ∧
    ({ sRst with rx := [0x00#8] }.rxOvf = false ∧ { sRst with rx := [0x00#8] }.rx ≠ [] ∧
      ¬startsWithWelcome { sRst with rx := [0x00#8] }.rx ∧ { sRst with rx := [0x00#8] }.hsDone = false) := by decide

theorem test_witness_CommitDropsBeforeTheShape_truncated : (received shortFrame).rxOvf = false ∧ (received shortFrame).rx ≠ [] ∧
    ¬startsWithWelcome (received shortFrame).rx ∧ (received shortFrame).hsDone = true ∧ (received shortFrame).rx.length < 10 := by
  decide

theorem test_witness_CommitDropsBeforeTheShape_badTag : (received (0x00#8 :: shortFrame)).rxOvf = false ∧
    ¬startsWithWelcome (received (0x00#8 :: shortFrame)).rx ∧ (received (0x00#8 :: shortFrame)).hsDone = true ∧
    10 ≤ (received (0x00#8 :: shortFrame)).rx.length ∧
    ((received (0x00#8 :: shortFrame)).rx.drop 7).take 3 ≠ [0x4E#8, 0x4B#8, ptBuild.tag2] := by decide

theorem test_witness_CommitDropsByShapeAndChecks_shape :
    (taggedFrame (received (xpGood.take 10)) ∧ (received (xpGood.take 10)).rx.length < 18) ∧
    (taggedFrame (received (dump0.take 17)) ∧ (received (dump0.take 17)).rx.length < 18) ∧
    (taggedFrame (received (dump0 ++ [0x00#8])) ∧ 18 ≤ (received (dump0 ++ [0x00#8])).rx.length ∧
      (received (dump0 ++ [0x00#8])).rx.length ≠ 20 ∧ ((received (dump0 ++ [0x00#8])).rx.length - 18) % 3 ≠ 0) := by decide

/-- XP_BADLEN under both checks (vector F-24). -/
def sBadLen : State :=
  { received (xpFrame 0x14#8 0x00#8 0x05#8 0x00#8 0x03#8 0x00#8 0x01#8 0x72#8 0xFF#8) with ctrl := 3#32 }

/-- XP_BADCRC under both checks (vector F-21). -/
def sBadCrc : State :=
  { received (xpFrame 0x0D#8 0x00#8 0x05#8 0x00#8 0x03#8 0x00#8 0x01#8 0x73#8 0xFF#8) with ctrl := 3#32 }

theorem test_witness_CommitDropsByShapeAndChecks_length : taggedFrame sBadLen ∧ sBadLen.rx.length = 20 ∧
    ¬lengthByteAccepted sBadLen := by decide

theorem test_witness_CommitDropsByShapeAndChecks_checksum : taggedFrame sBadCrc ∧ sBadCrc.rx.length = 20 ∧
    lengthByteAccepted sBadCrc ∧ ¬checksumAccepted sBadCrc := by decide +kernel

theorem test_witness_BannerIsAnsweredOrDropped : (received banner).rxOvf = false ∧ startsWithWelcome (received banner).rx ∧
    { received banner with tx := List.replicate 41 0x00#8 }.tx.length + 23 ≤ ptBuild.txMax ∧
    ptBuild.txMax < { received banner with tx := List.replicate 42 0x00#8 }.tx.length + 23 := by decide

/-- The XP frame at the upper bounds of P_T, under both checks (vector F-16). -/
def sXpTop : State := { received xpTop with ctrl := 3#32 }

theorem test_witness_CommitDropsByShapeAndChecks_passed : taggedFrame sXpTop ∧ sXpTop.rx.length = 20 ∧
    lengthByteAccepted sXpTop ∧ checksumAccepted sXpTop := by decide +kernel

theorem test_witness_OperandAndResultReads :
    (gives (step { sInv with pending := [.rst] }) (fun t => t.result != sInv.result) = true) ∧
    (gives (step { sInv with pending := [.memWrite 0x08#8 4 0x00000005#32] }) (fun t => t.result != sInv.result) = true) := by
  decide

theorem test_witness_CrcAndCountReads : { sRst with build := smallBuild, rx := List.replicate 21 0x01#8 }.rx.length ≤ smallBuild.rxMax := by
  decide

theorem test_witness_CrcAndCountReads_setXp : (withArgs sRst 7#3 255#17 255#17).tx = [] ∧ 24 ≤ sRst.build.txMax ∧
    (withArgs sRst 7#3 255#17 255#17).argLevel.toNat < sRst.build.numLevels ∧
    1 ≤ (withArgs sRst 7#3 255#17 255#17).argDest.toNat ∧
    (withArgs sRst 7#3 255#17 255#17).argDest.toNat ≤ sRst.build.numOutputs ∧
    1 ≤ (withArgs sRst 7#3 255#17 255#17).argSrc.toNat ∧
    (withArgs sRst 7#3 255#17 255#17).argSrc.toNat ≤ sRst.build.numInputs := by decide

theorem test_witness_CrcAndCountReads_handshake : { sRst with rx := banner }.tx = [] ∧ 23 ≤ sRst.build.txMax ∧
    { sRst with rx := banner }.rxOvf = false ∧ startsWithWelcome { sRst with rx := banner }.rx := by decide

theorem test_witness_XpFrameWritesOneCell : RoutingMatrix.wf sXpTop.matrix ∧ taggedFrame sXpTop ∧ sXpTop.rx.length = 20 ∧
    lengthByteAccepted sXpTop ∧ checksumAccepted sXpTop ∧ rxField sXpTop 16 = 2 ^ (7#3 : Level).toNat ∧
    (7#3 : Level).toNat < sXpTop.build.numLevels ∧ rxField sXpTop 12 + 1 ≤ sXpTop.build.numOutputs ∧
    rxField sXpTop 14 + 1 ≤ sXpTop.build.numInputs := by decide +kernel

/-- XP(0000,0000,0100): the first mask above the eight levels (vector F-13). -/
def sBadMask : State := received (xpFrame 0x0D#8 0x00#8 0x00#8 0x00#8 0x00#8 0x01#8 0x00#8 0x8E#8 0xAF#8)

/-- XP(00FF,0000,0001): the first destination above NUM_OUTPUTS (vector F-17). -/
def sBounds : State := received (xpFrame 0x0D#8 0x00#8 0xFF#8 0x00#8 0x00#8 0x00#8 0x01#8 0x5A#8 0xEB#8)

theorem test_witness_XpFrameRejections_mask : taggedFrame sBadMask ∧ sBadMask.rx.length = 20 ∧ lengthByteAccepted sBadMask ∧
    checksumAccepted sBadMask ∧ ∀ c : Level, c.toNat < sBadMask.build.numLevels → rxField sBadMask 16 ≠ 2 ^ c.toNat := by
  decide +kernel

theorem test_witness_XpFrameRejections_bounds : taggedFrame sBounds ∧ sBounds.rx.length = 20 ∧ lengthByteAccepted sBounds ∧
    checksumAccepted sBounds ∧ (0#3 : Level).toNat < sBounds.build.numLevels ∧ rxField sBounds 16 = 2 ^ (0#3 : Level).toNat ∧
    (sBounds.build.numOutputs < rxField sBounds 12 + 1 ∨ sBounds.build.numInputs < rxField sBounds 14 + 1) := by decide +kernel

/-- DUMP3B under both checks: one entry in range, two skipped (vector F-30). -/
def sDump : State := { received dump3b with ctrl := 3#32 }

theorem test_witness_DumpFrameWritesItsRowInPlace : sDump.build.wf ∧ sDump.build.dumpDecoder = .standard ∧
    RoutingMatrix.wf sDump.matrix ∧ taggedFrame sDump ∧ 18 ≤ sDump.rx.length ∧ (sDump.rx.length - 18) % 3 = 0 ∧
    lengthByteAccepted sDump ∧ checksumAccepted sDump := by decide +kernel

theorem test_witness_CommitDropsByShapeAndChecks_dump : taggedFrame sDump ∧ 18 ≤ sDump.rx.length ∧ sDump.rx.length ≠ 20 ∧
    (sDump.rx.length - 18) % 3 = 0 ∧ lengthByteAccepted sDump ∧ checksumAccepted sDump := by decide +kernel

/-- DUMP0 in a build with another entry decoder. -/
def sDumpOther : State := { received dump0 with build := { ptBuild with dumpDecoder := .other, dumpLevel := 5#3 } }

theorem test_witness_DumpWritesOnlyTheDumpLevel : sDumpOther.build.wf ∧ RoutingMatrix.wf sDumpOther.matrix ∧
    taggedFrame sDumpOther ∧ 18 ≤ sDumpOther.rx.length ∧ (sDumpOther.rx.length - 18) % 3 = 0 ∧
    lengthByteAccepted sDumpOther ∧ checksumAccepted sDumpOther := by decide +kernel

theorem test_witness_DropsHaveNoPartialEffect :
    leaves .rxCommit (received []) (fun t => eventKindField t.lastEvent = 4#4 ∧ eventReasonField t.lastEvent = 2#4) ∧
    leaves .rxCommit sBounds (fun t => eventKindField t.lastEvent = 4#4 ∧ eventReasonField t.lastEvent = 10#4) ∧
    leaves .rxCommit { sRst with build := smallBuild, rx := banner, tx := [0x00#8, 0x00#8] }
      (fun t => eventKindField t.lastEvent = 4#4 ∧ eventReasonField t.lastEvent = 11#4) :=
  ⟨⟨rfl, by decide⟩, ⟨rfl, by decide⟩, rfl, by decide⟩

/-- XP(00FE,00FE,0080) with other bytes wherever R171 says the decoder does not look. -/
def xpTopOther : List Byte :=
  [0x01#8, 0x02#8, 0x03#8, 0x04#8, 0x05#8, 0x06#8, 0x07#8, 0x4E#8, 0x4B#8, 0x58#8, 0x0A#8, 0x0B#8, 0x00#8, 0xFE#8, 0x00#8,
    0xFE#8, 0x00#8, 0x80#8, 0x12#8, 0x13#8]

theorem test_witness_UninterpretedBytesDoNotMatter : sHs.ctrl.getLsbD 0 = false ∧ sHs.ctrl.getLsbD 1 = false ∧
    sHs.build.dumpDecoder = .standard ∧ xpTop.length = xpTopOther.length ∧ ¬startsWithWelcome xpTop ∧
    ¬startsWithWelcome xpTopOther ∧ xpTop ≠ xpTopOther ∧
    (∀ i, 7 ≤ i → i ≤ 9 → xpTop.getD i 0#8 = xpTopOther.getD i 0#8) ∧
    (xpTop.length = 20 → ∀ i, 12 ≤ i → i ≤ 17 → xpTop.getD i 0#8 = xpTopOther.getD i 0#8) ∧
    (xpTop.length ≠ 20 → ∀ k, k < (xpTop.length - 18) / 3 → xpTop.getD (17 + 3 * k) 0#8 = xpTopOther.getD (17 + 3 * k) 0#8 ∧
      xpTop.getD (18 + 3 * k) 0#8 = xpTopOther.getD (18 + 3 * k) 0#8) := by
  refine ⟨by decide, by decide, by decide, by decide, by decide, by decide, by decide, ?_, ?_, fun h => absurd rfl h⟩
  · intro i h h'
    interval_cases i <;> decide
  · intro _ i h h'
    interval_cases i <;> decide

theorem test_witness_SetXpFieldsRoundTripThroughXpFrame : sXpTop.build.wf ∧ RoutingMatrix.wf sXpTop.matrix ∧
    (7#3 : Level).toNat < sXpTop.build.numLevels ∧ 1 ≤ (255#17 : PublicId).toNat ∧
    (255#17 : PublicId).toNat ≤ sXpTop.build.numOutputs ∧ (255#17 : PublicId).toNat ≤ sXpTop.build.numInputs ∧
    taggedFrame sXpTop ∧ sXpTop.rx.length = 20 ∧ lengthByteAccepted sXpTop ∧ checksumAccepted sXpTop ∧
    (sXpTop.rx.drop 12).take 2 = ((encodeSet sXpTop.build 7#3 255#17 255#17 0xFE#8).drop 13).take 2 ∧
    (sXpTop.rx.drop 14).take 2 = ((encodeSet sXpTop.build 7#3 255#17 255#17 0xFE#8).drop 15).take 2 ∧
    (sXpTop.rx.drop 16).take 2 = ((encodeSet sXpTop.build 7#3 255#17 255#17 0xFE#8).drop 19).take 2 := by decide +kernel

theorem test_witness_FrameLinePushesThenCommits : { sHs with build := smallBuild }.rx = [] ∧
    (List.replicate 21 0x01#8).length ≤ smallBuild.rxMax ∧ ([] : List Byte).length ≤ smallBuild.rxMax := by decide

theorem test_witness_MxGetLineReadsTheCell : ((0xF#32 : Word).extractLsb' 0 3).toNat < sInv.build.numLevels ∧
    1 ≤ ((0x000200FF#32 : Word).extractLsb' 0 17).toNat ∧
    ((0x000200FF#32 : Word).extractLsb' 0 17).toNat ≤ sInv.build.numOutputs := by decide

theorem test_witness_PopLineDrainsTx : 1 ≤ 3 ∧ 3 ≤ sMix.tx.length ∧ 1 ≤ 1 := by decide

end Sys2Proof.Tests
end

