-- ==== Sys2Proof/Proofs/Memory.lean ====
section
/-! SUPPORT. The bus errors of the register window (20_memory.md R84 to R86): the offsets from 0x54 on are no register's, their
access words decode to the UNMAPPED rows, and serving an access that errs raises the bus error and does nothing else. -/

namespace Sys2Proof

/-- The register map has a register only at that register's own offset (R33). -/
theorem eq_offset_of_regAt {off : Offset} {r : Reg} (h : regAt off = some r) : off = r.offset := by
  unfold regAt at h
  split at h <;> cases h <;> exact BitVec.eq_of_toNat_eq ‹_›

/-- Every register lies below the unmapped offsets (R33, R86). -/
theorem Reg.offset_lt (r : Reg) : r.offset.toNat < 0x54 := by
  cases r <;> decide

/-- No register lies at an offset from 0x54 on (R86). -/
theorem regAt_eq_none {off : Offset} (h : 0x54 ≤ off.toNat) : regAt off = none := by
  cases hr : regAt off with
  | none => rfl
  | some r =>
    rw [eq_offset_of_regAt hr] at h
    exact absurd r.offset_lt (Nat.not_lt.mpr h)

/-- An offset from 0x54 on is left to the UNMAPPED rows (R101). -/
theorem decode_accessWord_unmapped (w : Bool) {off : Offset} (v : Word) (h : 0x54 ≤ off.toNat) :
    decode (accessWord w off v) = decodeUnmapped w off v := by
  rw [decode_accessWord, regAt_eq_none h]

/-- What the UNMAPPED part of the decoder accepts is one of its four rows, with the fields of the word (R101). -/
theorem decodeUnmapped_mem {w : Bool} {off : Offset} {v : Word} {i : Instr} (h : decodeUnmapped w off v = .ok i) :
    i ∈ [Instr.unmapped54 w off v, .unmapped58 w off v, .unmapped60 w off v, .unmapped80 w off v] := by
  unfold decodeUnmapped at h
  split_ifs at h <;> cases h <;> simp

end Sys2Proof

namespace Sys2Proof.Machine

/-- The meaning of each UNMAPPED row is the bus error (R86). -/
theorem exec_unmapped {w : Bool} {off : Offset} {v : Word} {i : Instr} (s : State)
    (h : i ∈ [Instr.unmapped54 w off v, .unmapped58 w off v, .unmapped60 w off v, .unmapped80 w off v]) :
    exec i s = .next (raiseBusError s w) := by
  simp only [List.mem_cons, List.not_mem_nil, or_false] at h
  obtain rfl | rfl | rfl | rfl := h <;> rfl

/-- Serving an access that is wrongly sized, misaligned or unmapped raises the bus error: the first two before decode, an
unmapped offset through its UNMAPPED row (R84 to R86). -/
theorem serveAccess_busError (w : Bool) {off : Offset} {n : Nat} (v : Word) (s : State)
    (h : n ≠ 4 ∨ off.toNat % 4 ≠ 0 ∨ 0x54 ≤ off.toNat) :
    serveAccess w off n v s = .next (raiseBusError s w) := by
  obtain ⟨-, hs⟩ | ⟨-, e, -, hs⟩ | ⟨hb, i, hd, hs⟩ := serveAccess_cases w off n v s
  · exact hs
  · exact hs
  · have hok : ¬(n ≠ 4 ∨ off.toNat % 4 ≠ 0) := by simp [← erredBeforeDecode_iff, hb]
    have hoff : 0x54 ≤ off.toNat := (or_assoc.mpr h).resolve_left hok
    rw [decode_accessWord_unmapped w v hoff] at hd
    rw [hs, exec_unmapped s (decodeUnmapped_mem hd)]

/-- A step serves the read at the head of the host's steps (R290). -/
theorem step_memRead {s : State} {off : Offset} {n : Nat} {rest : List HostStep}
    (h : s.pending = .memRead off n :: rest) : step s = serveAccess false off n 0#32 (s.withPending rest) := by
  simp only [step, h]

/-- A step serves the write at the head of the host's steps (R290). -/
theorem step_memWrite {s : State} {off : Offset} {n : Nat} {v : Word} {rest : List HostStep}
    (h : s.pending = .memWrite off n v :: rest) : step s = serveAccess true off n v (s.withPending rest) := by
  simp only [step, h]

/-- Settles O7: the step serves the access, and serving it raises the bus error, for a read and for a write. -/
theorem busErrorSetsOnlyErrBus : Obligations.BusErrorSetsOnlyErrBus := by
  intro s off n rest herr
  constructor
  · intro hp
    rw [step_memRead hp, serveAccess_busError false 0#32 _ herr]
    rfl
  · intro v hp
    rw [step_memWrite hp, serveAccess_busError true v _ herr]
    rfl

end Sys2Proof.Machine
end

