-- ==== Sys2Proof/Proofs/Encoding.lean ====
section
/-! SUPPORT. The set-crosspoint frame byte by byte (30_encoding.md R103, 41_frame_encode.md R200): the multi-byte fields of a
frame as quotients and remainders by 256, and with them the payload and the whole frame. -/

namespace Sys2Proof.Machine

/-- The low byte of a 16-bit value is its remainder by 256. -/
theorem lowByte_eq_mod (v : Half) : v.extractLsb' 0 8 = BitVec.ofNat 8 (v.toNat % 256) := by
  simp [← BitVec.toNat_inj]

/-- The high byte of a 16-bit value is its quotient by 256. -/
theorem highByte_eq_div (v : Half) : v.extractLsb' 8 8 = BitVec.ofNat 8 (v.toNat / 256) := by
  simp [← BitVec.toNat_inj, Nat.shiftRight_eq_div_pow]

/-- A 16-bit field on the wire, most significant byte first (R89, R115). -/
theorem bytesBE16_eq (v : Half) :
    bytesBE16 v = [BitVec.ofNat 8 (v.toNat / 256), BitVec.ofNat 8 (v.toNat % 256)] := by
  rw [bytesBE16, highByte_eq_div, lowByte_eq_mod]

/-- The CRC on the wire, low byte first (R237). -/
theorem bytesLE16_eq (v : Half) :
    bytesLE16 v = [BitVec.ofNat 8 (v.toNat % 256), BitVec.ofNat 8 (v.toNat / 256)] := by
  rw [bytesLE16, highByte_eq_div, lowByte_eq_mod]

/-- The wire form of an id in range is the id less one, big-endian (R112, R200). -/
theorem bytesBE16_wireOfPublic {d : PublicId} (h : 1 ≤ d.toNat) (h' : d.toNat ≤ 65536) :
    bytesBE16 (wireOfPublic d) = [BitVec.ofNat 8 ((d.toNat - 1) / 256), BitVec.ofNat 8 ((d.toNat - 1) % 256)] := by
  rw [bytesBE16_eq, wireOfPublic_toNat d h h']

/-- The level mask sets one bit of its last byte, since a level code is below 8 (R43, R200). -/
theorem bytesBE32_maskOfLevel (c : Level) :
    bytesBE32 (maskOfLevel c) = [0x00#8, 0x00#8, 0x00#8, BitVec.ofNat 8 (2 ^ c.toNat)] := by
  revert c
  decide

/-- The payload of the set-crosspoint frame, byte by byte, for ids in range (R103, R200). -/
theorem setPayload_eq (b : Build) (c : Level) {d s : PublicId} (a : Byte)
    (hd : 1 ≤ d.toNat) (hd' : d.toNat ≤ 65536) (hs : 1 ≤ s.toNat) (hs' : s.toNat ≤ 65536) :
    setPayload b c d s a =
      [0x4E#8, 0x4B#8, b.tag2, a, b.cmdSet[0], b.cmdSet[1],
        BitVec.ofNat 8 ((d.toNat - 1) / 256), BitVec.ofNat 8 ((d.toNat - 1) % 256),
        BitVec.ofNat 8 ((s.toNat - 1) / 256), BitVec.ofNat 8 ((s.toNat - 1) % 256),
        0x00#8, 0x00#8, 0x00#8, BitVec.ofNat 8 (2 ^ c.toNat), 0x00#8] := by
  have hcmd : b.cmdSet.toList = [b.cmdSet[0], b.cmdSet[1]] := List.ext_getElem (by simp) (by grind)
  rw [setPayload, hcmd, bytesBE16_wireOfPublic hd hd', bytesBE16_wireOfPublic hs hs', bytesBE32_maskOfLevel]
  rfl

/-- The set-crosspoint frame around its payload: header, length byte, payload, CRC low byte first (R103, R200). -/
theorem encodeSet_eq (b : Build) (c : Level) (d s : PublicId) (a : Byte) :
    encodeSet b c d s a =
      [b.txHdr[0], b.txHdr[1], b.txHdr[2], b.txHdr[3], b.txHdr[4], b.txHdr[5], 0x11#8] ++ setPayload b c d s a ++
        [BitVec.ofNat 8 ((crc16 (setPayload b c d s a)).toNat % 256),
          BitVec.ofNat 8 ((crc16 (setPayload b c d s a)).toNat / 256)] := by
  have hhdr : b.txHdr.toList = [b.txHdr[0], b.txHdr[1], b.txHdr[2], b.txHdr[3], b.txHdr[4], b.txHdr[5]] :=
    List.ext_getElem (by simp) (by grind)
  rw [encodeSet, hhdr, bytesLE16_eq]
  rfl

/-- Settles O40: the frame stands around its payload and the CRC of that payload, whose bytes are known for ids in range. -/
theorem setXpFrameHasTheSpecLayout : Obligations.SetXpFrameHasTheSpecLayout := by
  intro b c d s a hd hd' hs hs'
  exact ⟨setPayload b c d s a, crc16 (setPayload b c d s a), setPayload_eq b c a hd hd' hs hs', rfl,
    encodeSet_eq b c d s a⟩

end Sys2Proof.Machine
end

