-- ==== Sys2Proof/Proofs/FrameDecode.lean ====
section
/-! SUPPORT. The frame decoder (40_frame_decode.md): the tests of R151 in the terms the claims are stated in, the verdict on a
committed frame case by case, and what the commit does for each verdict. -/

namespace Sys2Proof.Machine

/-! The tests on a frame. -/

/-- The banner test compares the first seven bytes with "Welcome" (R107, R154). -/
theorem isBanner_iff (f : List Byte) : isBanner f = true ↔ startsWithWelcome f := by
  have htest : isBanner f = true ↔ 7 ≤ f.length ∧ startsWithWelcome f := by
    simp [isBanner, bytesFromTo, welcome, startsWithWelcome]
  have hlen : startsWithWelcome f → 7 ≤ f.length := fun h => by
    have := congrArg List.length h
    simp only [List.length_take, List.length_cons, List.length_nil] at this
    omega
  exact htest.trans (and_iff_right_of_imp hlen)

/-- A tagged frame reaches to the end of its tag (R157, R158). -/
theorem taggedFrame_length {s : State} (h : taggedFrame s) : 10 ≤ s.rx.length := by
  obtain ⟨-, -, -, htag⟩ := h
  have := congrArg List.length htag
  simp only [List.length_take, List.length_drop, List.length_cons, List.length_nil] at this
  omega

/-- The length byte is accepted when the check is off or the byte agrees (R161). -/
theorem lengthByteAccepted_iff (s : State) :
    lengthByteAccepted s ↔ (lenCheckEn s.ctrl && !lengthByteOk s.rx) = false := by
  simp [lengthByteAccepted, lenCheckEn, lengthByteOk, byteAt]

/-- LE16(x, y) = y * 256 + x (R12). -/
theorem le16_toNat (x y : Byte) : (le16 x y).toNat = y.toNat * 256 + x.toNat := be16_toNat y x

/-- The checksum is accepted when the check is off or crc16 of bytes 7..L-3 agrees (R162). -/
theorem checksumAccepted_iff {s : State} (h : 9 ≤ s.rx.length) :
    checksumAccepted s ↔ (crcCheckEn s.ctrl && !checksumOk s.rx) = false := by
  have hcount : s.rx.length - 3 + 1 - 7 = s.rx.length - 9 := by omega
  have hfield : bytesFromTo s.rx 7 (s.rx.length - 3) = (s.rx.drop 7).take (s.rx.length - 9) := by
    rw [bytesFromTo, hcount]
  simp [checksumAccepted, crcCheckEn, checksumOk, hfield, ← BitVec.toNat_inj, le16_toNat, byteAt]

/-! The optional checks, the length byte before the checksum (R161, R162). -/

/-- An enabled length check that fails is answered before the checksum is looked at (R161). -/
theorem optionalChecks_lenMismatch {s : State} (shape : FrameVerdict) (hlen : ¬lengthByteAccepted s) :
    optionalChecks s.ctrl s.rx shape = .drop .lenMismatch := by
  rw [lengthByteAccepted_iff, Bool.not_eq_false] at hlen
  rw [optionalChecks, if_pos hlen]

/-- An enabled checksum check that fails, behind the length byte (R162). -/
theorem optionalChecks_crcMismatch {s : State} (shape : FrameVerdict) (h : 9 ≤ s.rx.length)
    (hlen : lengthByteAccepted s) (hcrc : ¬checksumAccepted s) :
    optionalChecks s.ctrl s.rx shape = .drop .crcMismatch := by
  rw [lengthByteAccepted_iff] at hlen
  rw [checksumAccepted_iff h, Bool.not_eq_false] at hcrc
  rw [optionalChecks, hlen, if_neg Bool.false_ne_true, if_pos hcrc]

/-- With both checks off or passed the frame is taken as its shape (R161, R162). -/
theorem optionalChecks_passed {s : State} (shape : FrameVerdict) (h : 9 ≤ s.rx.length)
    (hlen : lengthByteAccepted s) (hcrc : checksumAccepted s) :
    optionalChecks s.ctrl s.rx shape = shape := by
  rw [lengthByteAccepted_iff] at hlen
  rw [checksumAccepted_iff h] at hcrc
  rw [optionalChecks, hlen, hcrc, if_neg Bool.false_ne_true, if_neg Bool.false_ne_true]

/-! The verdict on the frame in RX, in the order of R151. -/

/-- What the checks of R151 say of the frame in RX: the verdict that a commit acts on. -/
def commitVerdict (s : State) : FrameVerdict := frameVerdict s.build.tag s.ctrl s.hsDone s.rxOvf s.rx

/-- A frame that lost a byte is dropped before any other check (R152). -/
theorem commitVerdict_overflow {s : State} (hovf : s.rxOvf = true) : commitVerdict s = .drop .rxOverflow := by
  simp [commitVerdict, frameVerdict, hovf]

/-- A commit with no bytes in RX (R153). -/
theorem commitVerdict_empty {s : State} (hovf : s.rxOvf = false) (hrx : s.rx = []) :
    commitVerdict s = .drop .empty := by
  simp [commitVerdict, frameVerdict, hovf, hrx]

/-- The banner is taken before HS_DONE is looked at (R154, R155). -/
theorem commitVerdict_banner {s : State} (hovf : s.rxOvf = false) (hw : startsWithWelcome s.rx) :
    commitVerdict s = .banner := by
  have hne : s.rx ≠ [] := fun h => by simp [startsWithWelcome, h] at hw
  simp [commitVerdict, frameVerdict, hovf, hne, (isBanner_iff _).mpr hw]

section NoBanner

variable {s : State} (hovf : s.rxOvf = false) (hne : s.rx ≠ []) (hw : ¬startsWithWelcome s.rx)
include hovf hne hw

/-- Before the handshake only the banner is taken (R156). -/
theorem commitVerdict_notReady (hhs : s.hsDone = false) : commitVerdict s = .drop .notReady := by
  simp [commitVerdict, frameVerdict, hovf, hne, mt (isBanner_iff _).mp hw, hhs]

/-- A frame too short to hold its tag (R157). -/
theorem commitVerdict_headerTruncated (hhs : s.hsDone = true) (hlen : s.rx.length < 10) :
    commitVerdict s = .drop .truncated := by
  simp [commitVerdict, frameVerdict, hovf, hne, mt (isBanner_iff _).mp hw, hhs, hlen]

/-- A frame whose bytes 7..9 are not the tag (R158). -/
theorem commitVerdict_badTag (hhs : s.hsDone = true) (hlen : 10 ≤ s.rx.length)
    (htag : (s.rx.drop 7).take 3 ≠ [0x4E#8, 0x4B#8, s.build.tag2]) : commitVerdict s = .drop .badTag := by
  simp [commitVerdict, frameVerdict, hovf, hne, mt (isBanner_iff _).mp hw, hhs, Nat.not_lt.mpr hlen, bytesFromTo,
    Build.tag, htag]

end NoBanner

/-- Past its tag, a frame is judged by its length, then by the optional checks (R159 to R162). -/
theorem commitVerdict_tagged {s : State} (h : taggedFrame s) :
    commitVerdict s =
      if s.rx.length = 20 then optionalChecks s.ctrl s.rx .xp
      else if s.rx.length < 18 then .drop .truncated
      else if (s.rx.length - 18) % 3 ≠ 0 then .drop .malformed
      else optionalChecks s.ctrl s.rx .dump := by
  have hlen := taggedFrame_length h
  obtain ⟨hovf, hw, hhs, htag⟩ := h
  have hne : s.rx ≠ [] := List.ne_nil_of_length_pos (by omega)
  simp [commitVerdict, frameVerdict, hovf, hne, mt (isBanner_iff _).mp hw, hhs, Nat.not_lt.mpr hlen, bytesFromTo,
    Build.tag, htag]

/-- The length of a frame is that of an XP frame or of a dump of whole entries (R159, R160). -/
abbrev shapeLength (n : Nat) : Prop := n = 20 ∨ (18 ≤ n ∧ (n - 18) % 3 = 0)

/-- The shape a frame of good length has: an XP frame at 20 bytes, else a dump (R159, R160). -/
def shapeOfLength (n : Nat) : FrameVerdict := if n = 20 then .xp else .dump

/-- A tagged frame of good length is left to the optional checks, with its shape (R159, R160). -/
theorem commitVerdict_shapeLength {s : State} (h : taggedFrame s) (hlen : shapeLength s.rx.length) :
    commitVerdict s = optionalChecks s.ctrl s.rx (shapeOfLength s.rx.length) := by
  rw [commitVerdict_tagged h, shapeOfLength]
  obtain h20 | ⟨h18, hmod⟩ := hlen
  · rw [if_pos h20, if_pos h20]
  · split
    · rfl
    · rw [if_neg (Nat.not_lt.mpr h18), if_neg (not_not_intro hmod)]

/-- A tagged frame of good length that passes the enabled checks is taken as its shape (R159 to R162). -/
theorem commitVerdict_passed {s : State} (h : taggedFrame s) (hlen : shapeLength s.rx.length)
    (hbyte : lengthByteAccepted s) (hcrc : checksumAccepted s) :
    commitVerdict s = shapeOfLength s.rx.length := by
  have := taggedFrame_length h
  rw [commitVerdict_shapeLength h hlen, optionalChecks_passed _ (by omega) hbyte hcrc]

/-! The LAST_EVENT words as numbers. -/

/-- Appending to a bit vector shifts it by the width of what is appended. -/
theorem toNat_append_eq_add {n m : Nat} (x : BitVec n) (y : BitVec m) :
    (x ++ y).toNat = x.toNat * 2 ^ m + y.toNat := by
  rw [BitVec.toNat_append, Nat.shiftLeft_eq, Nat.mul_comm, Nat.two_pow_add_eq_or_of_lt y.isLt]

/-- The place value of each field of LAST_EVENT: KIND from bit 0, REASON from 4, LEVEL from 8, DATA from 11 (R47). -/
theorem packEvent_toNat (data : BitVec 21) (level : Level) (reason : BitVec 4) (kind : EventKind) :
    (packEvent data level reason kind).toNat =
      data.toNat * 2048 + level.toNat * 256 + reason.toNat * 16 + kind.code.toNat := by
  have h : (packEvent data level reason kind).toNat =
      (data ++ level ++ reason ++ kind.code : BitVec (21 + 3 + 4 + 4)).toNat := rfl
  simp only [h, toNat_append_eq_add]
  omega

/-- The word recorded at a drop: the reason code over KIND 4 (R169, R331). -/
theorem dropEvent_eq (r : DropReason) : dropEvent r = BitVec.ofNat 32 (r.code.toNat * 16 + 4) := by
  cases r <;> rfl

/-- The word recorded at a dump: the count over DUMP_LEVEL and KIND 3 (R167). -/
theorem readyEvent_eq (c : Level) (n : Nat) :
    readyEvent c n = BitVec.ofNat 32 (n * 2048 + c.toNat * 256 + 3) := by
  apply BitVec.eq_of_toNat_eq
  have hkind : EventKind.ready.code.toNat = 3 := rfl
  have hlevel := c.isLt
  simp only [readyEvent, packEvent_toNat, BitVec.toNat_ofNat, hkind]
  omega

/-! What a commit does for each verdict. -/

/-- RX_COMMIT empties RX, acts on the verdict and answers an accepted write (R150, R151, R168). -/
theorem exec_rxCommit (s : State) :
    exec .rxCommit s =
      .next ((applyVerdict ((s.withRx []).withRxOvf false) s.rx (commitVerdict s)).withReply .writeOk) := rfl

/-- A commit that drops the frame up to the checksum records the reason and does nothing else (R168, R169). -/
theorem exec_rxCommit_drop {s : State} {r : DropReason} (h : commitVerdict s = .drop r) :
    exec .rxCommit s = .next (droppedAs s r.code.toNat) := by
  rw [exec_rxCommit, h, droppedAs, ← dropEvent_eq]
  rfl

/-- An XP frame is recorded as applied (reason 0), or dropped as BAD_MASK (9) or BOUNDS (10) (R164, R165). -/
theorem applyXp_reason (s : State) (f : List Byte) :
    eventReasonField (applyXp s f).lastEvent ∈ [0#4, DropReason.badMask.code, DropReason.bounds.code] := by
  obtain ⟨-, h⟩ | ⟨c, -, -, h⟩ | ⟨c, -, -, -, h⟩ := applyXp_cases s f <;> rw [h]
  · simp [dropEvent, packEvent_fields]
  · simp [dropEvent, packEvent_fields]
  · simp [xpEvent, packEvent_fields]

/-- A dump is always recorded as applied, with its number of entries (R167). -/
@[simp] theorem applyDump_lastEvent (s : State) (f : List Byte) :
    (applyDump s f).lastEvent = readyEvent s.build.dumpLevel (dumpCount f) := rfl

/-- A frame taken as its shape is dropped neither for its length byte nor for its checksum. -/
theorem applyVerdict_shape_reason (s : State) (f : List Byte) (n : Nat) :
    eventReasonField (applyVerdict s f (shapeOfLength n)).lastEvent ≠ DropReason.lenMismatch.code ∧
    eventReasonField (applyVerdict s f (shapeOfLength n)).lastEvent ≠ DropReason.crcMismatch.code := by
  unfold shapeOfLength
  split <;> simp only [applyVerdict]
  · have hmem := applyXp_reason s f
    constructor <;> intro h <;> rw [h] at hmem <;> exact absurd hmem (by decide)
  · have hzero : eventReasonField (applyDump s f).lastEvent = 0#4 := by simp [readyEvent, packEvent_fields]
    rw [hzero]
    decide

/-- Settles O47: each failing check of R151, in its order, gives its verdict, and a commit drops the frame by it. -/
theorem commitDropsBeforeTheShape : Obligations.CommitDropsBeforeTheShape := by
  intro s
  refine ⟨?overflow, ?empty, ?notReady, ?truncated, ?badTag⟩
  case overflow => exact fun hovf => exec_rxCommit_drop (commitVerdict_overflow hovf)
  case empty => exact fun hovf hrx => exec_rxCommit_drop (commitVerdict_empty hovf hrx)
  case notReady => exact fun hovf hne hw hhs => exec_rxCommit_drop (commitVerdict_notReady hovf hne hw hhs)
  case truncated =>
    exact fun hovf hne hw hhs hlen => exec_rxCommit_drop (commitVerdict_headerTruncated hovf hne hw hhs hlen)
  case badTag =>
    intro hovf hw hhs hlen htag
    have hne : s.rx ≠ [] := List.ne_nil_of_length_pos (by omega)
    exact exec_rxCommit_drop (commitVerdict_badTag hovf hne hw hhs hlen htag)

/-- Settles O48: a tagged frame is judged by its length, then by the optional checks, and one that passes is applied as its
shape, which records neither LEN_MISMATCH nor CRC_MISMATCH. -/
theorem commitDropsByShapeAndChecks : Obligations.CommitDropsByShapeAndChecks := by
  intro s htagged
  have hhdr := taggedFrame_length htagged
  refine ⟨?truncated, ?malformed, ?lenMismatch, ?crcMismatch, ?passed, ?dump⟩
  case truncated =>
    intro hlt
    apply exec_rxCommit_drop (r := .truncated)
    rw [commitVerdict_tagged htagged, if_neg (by omega), if_pos hlt]
  case malformed =>
    intro hge hne hmod
    apply exec_rxCommit_drop (r := .malformed)
    rw [commitVerdict_tagged htagged, if_neg hne, if_neg (by omega), if_pos hmod]
  case lenMismatch =>
    intro hlen hbyte
    apply exec_rxCommit_drop (r := .lenMismatch)
    rw [commitVerdict_shapeLength htagged hlen, optionalChecks_lenMismatch _ hbyte]
  case crcMismatch =>
    intro hlen hbyte hcrc
    apply exec_rxCommit_drop (r := .crcMismatch)
    rw [commitVerdict_shapeLength htagged hlen, optionalChecks_crcMismatch _ (by omega) hbyte hcrc]
  case passed =>
    intro hlen hbyte hcrc
    refine ⟨_, exec_rxCommit s, ?_⟩
    rw [commitVerdict_passed htagged hlen hbyte hcrc]
    exact applyVerdict_shape_reason _ _ _
  case dump =>
    intro hge hne hmod hbyte hcrc
    refine ⟨_, exec_rxCommit s, ?_⟩
    rw [commitVerdict_passed htagged (.inr ⟨hge, hmod⟩) hbyte hcrc, shapeOfLength, if_neg hne]
    exact readyEvent_eq _ _

/-- Settles O49: the verdict is the banner whatever HS_DONE is, and the handshake depends on the room in TX alone. -/
theorem bannerIsAnsweredOrDropped : Obligations.BannerIsAnsweredOrDropped := by
  intro s hovf hw
  rw [exec_rxCommit, commitVerdict_banner hovf hw, applyVerdict]
  obtain ⟨hroom, h⟩ | ⟨hroom, h⟩ := handshake_cases ((s.withRx []).withRxOvf false) <;>
    rw [h] <;> simp only [withRxOvf_build, withRxOvf_tx, withRx_build, withRx_tx] at hroom
  · exact ⟨fun _ => rfl, fun hfull => by omega⟩
  · exact ⟨fun hfits => by omega, fun _ => rfl⟩

end Sys2Proof.Machine
end

