-- ==== Sys2Proof/Proofs/FrameRoundTrip.lean ====
section
/-! SUPPORT. The round trip of 41_frame_encode.md R205: the destination, the source and the mask of a SET_XP frame, read back
by the fields of an XP frame, and what the commit of a valid XP frame in range writes. -/

namespace Sys2Proof.Machine

/-! The encoder's fields undone by the decoder's. -/

/-- A field rendered most significant byte first reads back as its value (R12, R89). -/
theorem be16_bytes (v : Half) : be16 (v.extractLsb' 8 8) (v.extractLsb' 0 8) = v := by
  apply BitVec.eq_of_toNat_eq
  rw [be16_toNat, highByte_eq_div, lowByte_eq_mod, BitVec.toNat_ofNat, BitVec.toNat_ofNat]
  omega

/-- Two bytes of a frame that render a 16-bit value are read as that value (R12, R163). -/
theorem be16_of_take_eq {f : List Byte} {i : Nat} {v : Half} (h : (f.drop i).take 2 = bytesBE16 v) :
    be16 (byteAt f i) (byteAt f (i + 1)) = v := by
  have hbyte : ∀ j < 2, byteAt f (i + j) = byteAt (bytesBE16 v) j := fun j hj => by
    simp [← h, byteAt, List.getElem?_take_of_lt hj]
  have hhigh : byteAt f i = v.extractLsb' 8 8 := hbyte 0 (by decide)
  have hlow : byteAt f (i + 1) = v.extractLsb' 0 8 := hbyte 1 (by decide)
  rw [hhigh, hlow, be16_bytes]

/-- The wire id of an id in range leads back to that id (R112). -/
theorem publicOfWire_wireOfPublic {d : PublicId} (h : 1 ≤ d.toNat) (h' : d.toNat ≤ 65536) :
    publicOfWire (wireOfPublic d) = d := by
  apply BitVec.eq_of_toNat_eq
  rw [publicOfWire_toNat, wireOfPublic_toNat d h h', Nat.sub_add_cancel h]

/-- Different level codes have different 16-bit masks (R43, R164). -/
theorem levelMask_inj : ∀ c c' : Level, 1#16 <<< c.toNat = 1#16 <<< c'.toNat → c = c' := by decide

/-- The mask of a level of the build is taken as that level (R164). -/
theorem levelOfMask_of_lt {n : Nat} {c : Level} (hc : c.toNat < n) : levelOfMask n (1#16 <<< c.toNat) = some c := by
  have hmem : ∀ c : Level, c ∈ levelCodes := by decide
  cases hfound : levelOfMask n (1#16 <<< c.toNat) with
  | none =>
    have hnot := List.find?_eq_none.mp hfound c (hmem c)
    simp [hc] at hnot
  | some c' =>
    obtain ⟨-, hmask⟩ := levelOfMask_some hfound
    rw [levelMask_inj c c' hmask]

/-! The fields of the SET_XP frame that R205 copies. -/

/-- The low half of the outbound mask is the mask an XP frame carries (R164, R200). -/
theorem bytesBE16_levelMask (c : Level) : bytesBE16 (1#16 <<< c.toNat) = [0x00#8, BitVec.ofNat 8 (2 ^ c.toNat)] := by
  revert c
  decide

section SetXpFrame

variable (b : Build) (c : Level) {d x : PublicId} (a : Byte)
  (hd : 1 ≤ d.toNat) (hd' : d.toNat ≤ 65536) (hx : 1 ≤ x.toNat) (hx' : x.toNat ≤ 65536)
include hd hd' hx hx'

/-- Bytes 13..14 of the SET_XP frame are the wire destination (R200). -/
theorem encodeSet_dest : ((encodeSet b c d x a).drop 13).take 2 = bytesBE16 (wireOfPublic d) := by
  rw [encodeSet_eq, setPayload_eq b c a hd hd' hx hx', bytesBE16_wireOfPublic hd hd']
  rfl

/-- Bytes 15..16 of the SET_XP frame are the wire source (R200). -/
theorem encodeSet_source : ((encodeSet b c d x a).drop 15).take 2 = bytesBE16 (wireOfPublic x) := by
  rw [encodeSet_eq, setPayload_eq b c a hd hd' hx hx', bytesBE16_wireOfPublic hx hx']
  rfl

/-- Bytes 19..20 of the SET_XP frame are the mask of the level, as an XP frame carries it (R200). -/
theorem encodeSet_mask : ((encodeSet b c d x a).drop 19).take 2 = bytesBE16 (1#16 <<< c.toNat) := by
  rw [encodeSet_eq, setPayload_eq b c a hd hd' hx hx', bytesBE16_levelMask]
  rfl

end SetXpFrame

/-! The commit of an XP frame. -/

/-- An XP frame whose mask is a level and whose ids are in range writes its cell and records the event (R163 to R165). -/
theorem applyXp_inRange {s : State} {f : List Byte} {c : Level} (hlevel : levelOfMask s.build.numLevels (xpMask f) = some c)
    (hdest : (publicOfWire (xpWireDest f)).toNat ≤ s.build.numOutputs)
    (hsource : (publicOfWire (xpWireSource f)).toNat ≤ s.build.numInputs) :
    applyXp s f =
      (setSticky (setCell s c (publicOfWire (xpWireDest f)).toNat (publicOfWire (xpWireSource f))) .evXp).withLastEvent
        (xpEvent c (publicOfWire (xpWireDest f))) := by
  rw [applyXp, hlevel]
  exact if_neg (by omega)

/-- A valid frame of 20 bytes is applied as an XP frame, on the state with RX emptied (R151, R160, R168). -/
theorem exec_rxCommit_xp {s : State} (htagged : taggedFrame s) (hlen : s.rx.length = 20)
    (hbyte : lengthByteAccepted s) (hcrc : checksumAccepted s) :
    exec .rxCommit s = .next ((applyXp ((s.withRx []).withRxOvf false) s.rx).withReply .writeOk) := by
  rw [exec_rxCommit, commitVerdict_passed htagged (.inl hlen) hbyte hcrc, shapeOfLength, if_pos hlen, applyVerdict]

/-- Settles O57: the three fields of the XP frame are the wire forms of the operands, which decode to the operands, and a
valid XP frame in range writes its one cell. -/
theorem setXpFieldsRoundTripThroughXpFrame : Obligations.SetXpFieldsRoundTripThroughXpFrame := by
  intro s c d x a hbuild hmatrix hc hd hd' hx hx' htagged hlen hbyte hcrc hdest hsource hmask
  obtain ⟨-, ⟨-, hout⟩, ⟨-, hin⟩, -⟩ := hbuild
  have hdMax := hd'.trans hout
  have hxMax := hx'.trans hin
  rw [encodeSet_dest s.build c a hd hdMax hx hxMax] at hdest
  rw [encodeSet_source s.build c a hd hdMax hx hxMax] at hsource
  rw [encodeSet_mask s.build c a hd hdMax hx hxMax] at hmask
  have hd_eq : publicOfWire (xpWireDest s.rx) = d := by
    rw [xpWireDest, be16_of_take_eq hdest, publicOfWire_wireOfPublic hd hdMax]
  have hx_eq : publicOfWire (xpWireSource s.rx) = x := by
    rw [xpWireSource, be16_of_take_eq hsource, publicOfWire_wireOfPublic hx hxMax]
  have hc_eq : levelOfMask s.build.numLevels (xpMask s.rx) = some c := by
    rw [xpMask, be16_of_take_eq hmask, levelOfMask_of_lt hc]
  have happly := applyXp_inRange (s := (s.withRx []).withRxOvf false) hc_eq (hd_eq ▸ hd') (hx_eq ▸ hx')
  rw [hd_eq, hx_eq] at happly
  rw [exec_rxCommit_xp htagged hlen hbyte hcrc, happly]
  refine ⟨_, rfl, rfl, fun c' d' hlt => ?_⟩
  exact setCell_cell (s := (s.withRx []).withRxOvf false) hmatrix c c' d.toNat d' x d.isLt hlt

end Sys2Proof.Machine
end

