-- ==== Sys2Proof/Proofs/Crc.lean ====
section
/-! SUPPORT. The CRC-16 function and the stand-alone CRC engine (42_crc.md): what the loop of R232 does to a value whose low
bits are 0, the residue of a checksummed sequence (R239), and the writes and reads of the engine and of the byte counts. -/

namespace Sys2Proof.Machine

/-! The function of R231 and R232. -/

/-- A pass over an even value only shifts it (R232). -/
theorem crcBit_of_even {r : Half} (h : r.getLsbD 0 = false) : crcBit r = r >>> 1 := by
  rw [crcBit, h]
  rfl

/-- Passes over low bits that are all 0 only shift (R232). -/
theorem crcBits_of_lowBits_zero {n : Nat} {r : Half} (h : ∀ i < n, r.getLsbD i = false) : crcBits n r = r >>> n := by
  induction n generalizing r with
  | zero => simp [crcBits]
  | succ n ih =>
    have hshift : ∀ i < n, (r >>> 1).getLsbD i = false := fun i hi => by
      simpa using h (1 + i) (by omega)
    rw [crcBits, crcBit_of_even (h 0 (by omega)), ih hshift, ← BitVec.shiftRight_add, Nat.add_comm]

/-- A byte equal to the low byte of the running value shifts that byte out (R232). -/
theorem crcStep_lowByte (k : Half) : crcStep k (k.extractLsb' 0 8) = (k.extractLsb' 8 8).setWidth 16 := by
  have hlow : ∀ i < 8, (k ^^^ (k.extractLsb' 0 8).setWidth 16).getLsbD i = false := fun i hi => by
    simp [hi, show i < 16 by omega]
  have hgone : (k.extractLsb' 0 8).setWidth 16 >>> 8 = 0#16 := by
    apply BitVec.eq_of_toNat_eq
    simp only [BitVec.toNat_ushiftRight, BitVec.toNat_setWidth, BitVec.extractLsb'_toNat, BitVec.toNat_ofNat,
      Nat.shiftRight_eq_div_pow]
    omega
  have hkept : k >>> 8 = (k.extractLsb' 8 8).setWidth 16 := by
    apply BitVec.eq_of_toNat_eq
    simp only [BitVec.toNat_ushiftRight, BitVec.toNat_setWidth, BitVec.extractLsb'_toNat,
      Nat.shiftRight_eq_div_pow]
    omega
  rw [crcStep, crcBits_of_lowBits_zero hlow, BitVec.ushiftRight_xor_distrib, hgone, hkept, BitVec.xor_zero]

/-- A byte equal to the whole running value leaves 0 (R232). -/
theorem crcStep_self (b : Byte) : crcStep (b.setWidth 16) b = 0#16 := by
  rw [crcStep, BitVec.xor_self, crcBits_of_lowBits_zero (by simp), BitVec.zero_ushiftRight]

/-- Any running value is brought to 0 by its own two bytes, low byte first (R239). -/
theorem crcRun_bytesLE16 (k : Half) : crcRun k (bytesLE16 k) = 0#16 := by
  calc crcRun k (bytesLE16 k)
    _ = crcStep (crcStep k (k.extractLsb' 0 8)) (k.extractLsb' 8 8) := rfl
    _ = 0#16 := by rw [crcStep_lowByte, crcStep_self]

/-- Settles O44: crc16 goes on from crc16 of `p` over the two bytes of that value, which bring it to 0. -/
theorem crcResidueIsZero : Obligations.CrcResidueIsZero := by
  intro p
  rw [crc16, crcRun_append]
  exact crcRun_bytesLE16 (crc16 p)

/-! The writes of the engine. -/

/-- The 16 bits that a write of CRC_VALUE keeps are the low ones (R235). -/
theorem halfOf_eq (v : Word) : halfOf v = v.extractLsb' 0 16 := BitVec.setWidth_eq_extractLsb' (by decide)

/-- The byte that a write of a byte port keeps is the low one (R234, R296, R313). -/
theorem byteOf_eq (v : Word) : byteOf v = v.extractLsb' 0 8 := BitVec.setWidth_eq_extractLsb' (by decide)

/-- Settles O30: each write replaces CRC, from the low bits of the value where it has one, and answers an accepted write. -/
theorem crcEngineWrites : Obligations.CrcEngineWrites := by
  intro s v
  rw [← halfOf_eq, ← byteOf_eq]
  exact ⟨rfl, rfl, rfl⟩

/-! The reads of the engine and of the byte counts. -/

/-- CRC with its bytes exchanged, as a number (R236). -/
theorem swapBytes_toNat (v : Half) : (swapBytes v).toNat = v.toNat % 256 * 256 + v.toNat / 256 := by
  have h : (swapBytes v).toNat = (v.extractLsb' 0 8 ++ v.extractLsb' 8 8 : BitVec (8 + 8)).toNat := rfl
  rw [h, toNat_append_eq_add, lowByte_eq_mod, highByte_eq_div, BitVec.toNat_ofNat, BitVec.toNat_ofNat]
  omega

/-- RD_TX_COUNT answers the number of bytes in TX (R302). -/
theorem exec_rdTxCount {t : State} {n : Nat} (h : t.tx.length = n) :
    exec .rdTxCount t = .next { t with reply := .readOk (BitVec.ofNat 32 n) } := by
  rw [← h]
  rfl

/-- A push never takes RX past its capacity (R296, R301). -/
theorem pushRx_length_le {s : State} (b : Byte) (h : s.rx.length ≤ s.build.rxMax) :
    (pushRx s b).rx.length ≤ (pushRx s b).build.rxMax := by
  obtain ⟨hroom, heq⟩ | ⟨-, heq⟩ := pushRx_cases s b <;> rw [heq]
  · simpa using hroom
  · exact h

/-- SET_XP appends 24 bytes when its operands are good and TX has room (R201). -/
theorem setXpEffect_tx_length {s : State} (hops : setXpOperandsOk s.build s.argLevel s.argDest s.argSrc = true)
    (hroom : 24 ≤ s.build.txMax - s.tx.length) : (setXpEffect s).tx.length = s.tx.length + 24 := by
  obtain ⟨hbad, -⟩ | ⟨-, hfull, -⟩ | ⟨-, -, -, heq⟩ | ⟨-, -, -, heq⟩ := setXpEffect_cases s
  · rw [hops] at hbad
    contradiction
  · omega
  · simp [heq]
  · simp [heq]

/-- Settles O25: the reads answer CRC, its bytes exchanged and the two lengths; a push keeps RX within its capacity; and into
an empty TX, SET_XP appends its 24 bytes and the handshake the 23 of INIT_FRAME. -/
theorem crcAndCountReads : Obligations.CrcAndCountReads := by
  intro s
  refine ⟨?value, ?swap, rfl, exec_rdTxCount rfl, ?push, ?setXp, ?handshake⟩
  case value => rw [BitVec.ofNat_toNat]; rfl
  case swap => rw [← swapBytes_toNat, BitVec.ofNat_toNat]; rfl
  case push => exact fun h v => ⟨_, rfl, pushRx_length_le (byteOf v) h⟩
  case setXp =>
    intro htx hroom hlevel hdest hdest' hsrc hsrc'
    have hne : s.argSrc ≠ 0#17 := fun h => by simp [h] at hsrc
    have hops := (setXpOperandsOk_iff ..).mpr ⟨hlevel, hdest, hdest', hne, hsrc'⟩
    have hlen := setXpEffect_tx_length hops (by simpa [htx] using hroom)
    exact ⟨_, rfl, exec_rdTxCount (hlen.trans (by simp [htx]))⟩
  case handshake =>
    intro htx hroom hovf hw
    obtain ⟨hanswer, -⟩ := bannerIsAnsweredOrDropped s hovf hw
    exact ⟨_, hanswer (by simpa [htx] using hroom), exec_rdTxCount (by simp [htx])⟩

end Sys2Proof.Machine
end

