-- ==== Sys2Proof/Proofs/CrcIndependence.lean ====
section
/-! SUPPORT. The frame decoder and encoder compute their checksums apart from the CRC register (42_crc.md R238): what a
commit or SET_XP does commutes with replacing CRC. -/

namespace Sys2Proof.Machine

/-- The operation neither reads nor writes the CRC register (R238): replacing CRC before it is replacing CRC after it. -/
def IgnoresCrc (f : State → State) : Prop := ∀ s r, f (s.withCrc r) = (f s).withCrc r

/-- An operation that ignores CRC leaves it as it is. -/
theorem IgnoresCrc.crc_eq {f : State → State} (h : IgnoresCrc f) (s : State) : (f s).crc = s.crc := by
  have hcrc : (f (s.withCrc s.crc)).crc = s.crc := by rw [h, withCrc_crc]
  exact hcrc

/-- SET_XP looks at its operands, CTRL and TX (R201, R204). -/
theorem setXpEffect_ignoresCrc : IgnoresCrc setXpEffect := by
  intro s r
  unfold setXpEffect optimisticWrite
  rw [apply_ite (State.withCrc · r), apply_ite (State.withCrc · r), apply_ite (State.withCrc · r)]
  rfl

section WithCrc

variable (s : State) (r : Half)

/-- The handshake looks at the room in TX alone (R155). -/
theorem handshake_withCrc : handshake (s.withCrc r) = (handshake s).withCrc r := by
  unfold handshake
  rw [apply_ite (State.withCrc · r)]
  rfl

/-- The bounds of a crosspoint are those of the build (R165). -/
theorem applyCrosspoint_withCrc (c : Level) (d src : PublicId) :
    applyCrosspoint (s.withCrc r) c d src = (applyCrosspoint s c d src).withCrc r := by
  unfold applyCrosspoint
  rw [apply_ite (State.withCrc · r)]
  rfl

/-- An XP frame is judged by its bytes and the build (R163 to R165). -/
theorem applyXp_withCrc (f : List Byte) : applyXp (s.withCrc r) f = (applyXp s f).withCrc r := by
  unfold applyXp
  rw [withCrc_build]
  split
  · rfl
  · rw [applyCrosspoint_withCrc]

/-- An entry of a dump is judged by its own values and the build (R167). -/
theorem applyEntry_withCrc (e : Nat × PublicId) : applyEntry (s.withCrc r) e = (applyEntry s e).withCrc r := by
  unfold applyEntry
  rw [apply_ite (State.withCrc · r)]
  rfl

/-- The entries of a dump, one after the other (R167). -/
theorem applyEntries_withCrc (es : List (Nat × PublicId)) :
    applyEntries (s.withCrc r) es = (applyEntries s es).withCrc r :=
  List.foldl_hom (State.withCrc · r) fun t e => applyEntry_withCrc t r e

/-- A dump is its entries and the record of them (R167). -/
theorem applyDump_withCrc (f : List Byte) : applyDump (s.withCrc r) f = (applyDump s f).withCrc r := by
  rw [applyDump, applyEntries_withCrc]
  rfl

/-- Whatever the verdict, its effect neither reads nor writes CRC (R238). -/
theorem applyVerdict_withCrc (f : List Byte) (verdict : FrameVerdict) :
    applyVerdict (s.withCrc r) f verdict = (applyVerdict s f verdict).withCrc r := by
  cases verdict with
  | drop d => rfl
  | banner => exact handshake_withCrc s r
  | xp => exact applyXp_withCrc s r f
  | dump => exact applyDump_withCrc s r f

end WithCrc

/-- RX_COMMIT takes its verdict from RX and the build, CTRL and the flags, and acts on it without CRC (R151, R238). -/
theorem commitEffect_ignoresCrc : IgnoresCrc commitEffect :=
  fun s r => applyVerdict_withCrc (emptyRx s) r s.rx (commitVerdict s)

/-- An instruction whose effect ignores CRC keeps it, and takes states that differ in CRC alone to such states. -/
theorem exec_of_ignoresCrc {i : Instr} {f : State → State} (hexec : ∀ s, exec i s = .next (writeAccepted (f s)))
    (hf : IgnoresCrc f) (s : State) (r : Half) :
    ∃ t, exec i s = .next t ∧ t.crc = s.crc ∧ exec i { s with crc := r } = .next { t with crc := r } := by
  refine ⟨_, hexec s, hf.crc_eq s, ?_⟩
  calc exec i { s with crc := r }
    _ = .next (writeAccepted (f (s.withCrc r))) := hexec _
    _ = .next (writeAccepted ((f s).withCrc r)) := by rw [hf s r]

/-- Settles O46: both effects ignore CRC. -/
theorem frameCrcsIgnoreTheCrcRegister : Obligations.FrameCrcsIgnoreTheCrcRegister := by
  rintro s r i (rfl | rfl)
  · exact exec_of_ignoresCrc (fun _ => rfl) commitEffect_ignoresCrc s r
  · exact exec_of_ignoresCrc (fun _ => rfl) setXpEffect_ignoresCrc s r

end Sys2Proof.Machine
end

