-- ==== Sys2Proof/Proofs/MatrixCommands.lean ====
section
/-! SUPPORT. The matrix commands (43_matrix.md): the bounds check of R260 as each command makes it, and what MX_GET and
MX_SET do on either side of it. -/

namespace Sys2Proof.Machine

/-- An index outside the matrix, by the bound it breaks (R260). -/
theorem indexInRange_eq_false_iff (b : Build) (c : Level) (d : Nat) :
    indexInRange b c d = false ↔ b.numLevels ≤ c.toNat ∨ d = 0 ∨ b.numOutputs < d := by
  rw [← Bool.not_eq_true, indexInRange_iff]
  omega

/-- The operands of MX_SET are out of range by their index or by their source (R260, R262). -/
theorem indexAndSourceInRange_eq_false_iff (b : Build) (c : Level) (d : Nat) (x : PublicId) :
    (indexInRange b c d && sourceInRange b x) = false ↔
      b.numLevels ≤ c.toNat ∨ d = 0 ∨ b.numOutputs < d ∨ b.numInputs < x.toNat := by
  rw [Bool.and_eq_false_iff, indexInRange_eq_false_iff, ← Bool.not_eq_true (sourceInRange b x), sourceInRange_iff,
    Nat.not_le, or_assoc, or_assoc]

section Effects

variable {s : State}

/-- MX_GET of a cell of the matrix (R261). -/
theorem mxGetEffect_inRange (h : indexInRange s.build s.argLevel s.argDest.toNat = true) :
    mxGetEffect s = s.withResult (s.cell s.argLevel s.argDest.toNat) := if_pos h

/-- MX_GET of an index outside the matrix (R261). -/
theorem mxGetEffect_outOfRange (h : indexInRange s.build s.argLevel s.argDest.toNat = false) :
    mxGetEffect s = setSticky (s.withResult 0#17) .errBounds := if_neg (Bool.eq_false_iff.mp h)

/-- MX_SET with an index and a source in range (R262). -/
theorem mxSetEffect_inRange
    (h : (indexInRange s.build s.argLevel s.argDest.toNat && sourceInRange s.build s.argSrc) = true) :
    mxSetEffect s = setCell s s.argLevel s.argDest.toNat s.argSrc := if_pos h

/-- MX_SET with an index or a source out of range (R262). -/
theorem mxSetEffect_outOfRange
    (h : (indexInRange s.build s.argLevel s.argDest.toNat && sourceInRange s.build s.argSrc) = false) :
    mxSetEffect s = setSticky s .errBounds := if_neg (Bool.eq_false_iff.mp h)

end Effects

/-- MX_GET acts on the matrix and answers an accepted write (R261). -/
theorem exec_mxGet (s : State) : exec .mxGet s = .next (writeAccepted (mxGetEffect s)) := rfl

/-- MX_SET acts on the matrix and answers an accepted write (R262). -/
theorem exec_mxSet (s : State) : exec .mxSet s = .next (writeAccepted (mxSetEffect s)) := rfl

/-- MX_CLEAR leaves the matrix with no entry and answers an accepted write (R263). -/
theorem exec_mxClear (s : State) : exec .mxClear s = .next ((s.withMatrix []).withReply .writeOk) := rfl

/-- Settles O36: in range the effect is one cell write, which the store reads back at its own cell alone; out of range it is
the sticky bit. -/
theorem mxSetWritesOneCellOrReportsBounds : Obligations.MxSetWritesOneCellOrReportsBounds := by
  intro s hmatrix
  rw [exec_mxSet]
  constructor
  · rintro ⟨hlevel, hdest, hdest', hsource⟩
    have hindex := (indexInRange_iff ..).mpr ⟨hlevel, hdest, hdest'⟩
    have hops := Bool.and_eq_true_iff.mpr ⟨hindex, (sourceInRange_iff ..).mpr hsource⟩
    rw [mxSetEffect_inRange hops]
    refine ⟨_, rfl, rfl, fun c d hd => ?_⟩
    exact setCell_cell hmatrix s.argLevel c s.argDest.toNat d s.argSrc s.argDest.isLt hd
  · intro hout
    rw [mxSetEffect_outOfRange ((indexAndSourceInRange_eq_false_iff ..).mpr hout)]
    rfl

/-- Settles O35: in range the effect is RESULT alone; out of range it is RESULT = 0 and the sticky bit. -/
theorem mxGetReadsCellOrReportsBounds : Obligations.MxGetReadsCellOrReportsBounds := by
  intro s
  rw [exec_mxGet]
  constructor
  · intro hin
    rw [mxGetEffect_inRange ((indexInRange_iff ..).mpr hin)]
    rfl
  · intro hout
    rw [mxGetEffect_outOfRange ((indexInRange_eq_false_iff ..).mpr hout)]
    rfl

/-- Settles O37: the matrix is left with no entry, and a cell that is not listed reads 0. -/
theorem mxClearEmptiesEveryCell : Obligations.MxClearEmptiesEveryCell :=
  fun s => ⟨_, exec_mxClear s, fun c d => readCell_nil (cellNumber c d), rfl⟩

end Sys2Proof.Machine
end

