-- ==== Sys2Proof/Proofs/HostControl.lean ====
section
/-! SUPPORT. The registers and commands of 44_host_control.md: the word STATUS bit by bit, what CTRL keeps of a written value,
the values of CMD that are no command, the byte ports, and the registers that store or answer a value and do no more. -/

namespace Sys2Proof.Machine

/-! STATUS and CTRL. -/

/-- The bits of STATUS from bit 0 on, the reserved bits 31:11 with them (R35, R293). -/
def statusBits (s : State) : List Bool :=
  [s.hsDone, s.rxOvf, s.sticky.evHs, s.sticky.evXp, s.sticky.evReady, s.sticky.errDrop, s.sticky.errBounds,
    s.sticky.errCmd, s.sticky.errTxOvf, s.sticky.errBus, irq s] ++ List.replicate 21 false

/-- STATUS is its list of bits, read as a word (R293). -/
theorem statusWord_eq_ofBoolListLE (s : State) : statusWord s = BitVec.ofBoolListLE (statusBits s) := rfl

/-- Bit n of STATUS is entry n of its list of bits (R293). -/
theorem statusWord_getLsbD (s : State) (n : Nat) : (statusWord s).getLsbD n = (statusBits s).getD n false := by
  rw [statusWord_eq_ofBoolListLE]
  exact BitVec.getLsbD_ofBoolListLE

/-- Each sticky bit stands at its own place in STATUS (R35, R293). -/
theorem statusWord_stickyBit (s : State) (b : StickyBit) : (statusWord s).getLsbD b.index = s.sticky.get b := by
  rw [statusWord_getLsbD]
  cases b <;> rfl

/-- The bits of STATUS from 11 on read 0 (R293). -/
theorem statusWord_reserved (s : State) {n : Nat} (h : 11 ≤ n) : (statusWord s).getLsbD n = false := by
  rw [statusWord_getLsbD, statusBits, List.getD_append_right _ _ _ _ h, List.getD_eq_getElem?_getD,
    List.getElem?_getD_replicate_default_eq]

/-- IRQ is 0 right after reset, since no sticky bit is set (R340, R372). -/
theorem irq_resetOf (b : Build) : irq (State.resetOf b) = false := by
  simp [irq, Sticky.anyError, State.resetOf]

/-- Settles O24: the word is STATUS, whose bits are those of its list, and bit 10 of it is the equation of IRQ. -/
theorem statusReadShowsEveryBit : Obligations.StatusReadShowsEveryBit := fun s =>
  ⟨statusWord s, rfl, statusWord_getLsbD s 0, statusWord_getLsbD s 1, statusWord_stickyBit s, statusWord_getLsbD s 10,
    statusWord_getLsbD s 10, fun _ => statusWord_reserved s, irq_resetOf s.build⟩

/-- CTRL keeps the bits of a written value that are not reserved (R34, R292). -/
theorem ctrlOf_getLsbD (v : Word) {i : Nat} (h : (0x00000F07#32 : Word).getLsbD i = true) :
    (ctrlOf v).getLsbD i = v.getLsbD i := by
  rw [ctrlOf, BitVec.getLsbD_and, h, Bool.and_true]

/-- IRQ after a write of CTRL is that of the written enables (R292, R340). -/
theorem irq_withCtrl_ctrlOf (s : State) (v : Word) :
    irq (s.withCtrl (ctrlOf v)) =
      ((ieHs v && s.sticky.evHs) || (ieXp v && s.sticky.evXp) || (ieReady v && s.sticky.evReady) ||
        (ieErr v && s.sticky.anyError)) := by
  simp only [irq, ieHs, ieXp, ieReady, ieErr, withCtrl_ctrl, withCtrl_sticky]
  rw [ctrlOf_getLsbD v rfl, ctrlOf_getLsbD v rfl, ctrlOf_getLsbD v rfl, ctrlOf_getLsbD v rfl]

/-- Settles O23: the four enables are not reserved, so IRQ sees them as they were written. -/
theorem ctrlReadAndWrite : Obligations.CtrlReadAndWrite := fun s v =>
  ⟨rfl, rfl, irq_withCtrl_ctrlOf s v⟩

/-- Settles O28: the write replaces the sticky bits alone, each cleared by its own written bit. -/
theorem statusWriteClearsWrittenBits : Obligations.StatusWriteClearsWrittenBits := fun s v =>
  ⟨_, rfl, Sticky.get_w1c s.sticky v, rfl⟩

/-! CMD. -/

/-- A value of CMD is illegal exactly when, as a number, it is none of the ten opcodes (R111, R306). -/
theorem illegalCmdValue_iff (v : Word) : illegalCmdValue v ↔ 0x0A ≤ v.toNat := by
  have hhigh : v.extractLsb' 8 24 = 0#24 ↔ v.toNat / 256 = 0 := by
    rw [← BitVec.toNat_inj, BitVec.extractLsb'_toNat, Nat.shiftRight_eq_div_pow, BitVec.toNat_ofNat]
    omega
  have hlow : 0x0A#8 ≤ v.extractLsb' 0 8 ↔ 0x0A ≤ v.toNat % 256 := by
    rw [BitVec.le_def, BitVec.extractLsb'_toNat, Nat.shiftRight_zero]
    rfl
  rw [illegalCmdValue, ne_eq, hhigh, hlow]
  omega

/-- Every number from 0x0A on is left to CMD_ILLEGAL (R111, R306). -/
theorem decodeCmd_illegal {v : Word} (h : 0x0A ≤ v.toNat) : decodeCmd v = .cmdIllegal v := by
  unfold decodeCmd
  split
  case h_11 => rfl
  all_goals omega

/-- A write of CMD is the command that its value issues (R102, R295). -/
theorem decode_accessWord_cmd (v : Word) : decode (accessWord true 0x08#8 v) = .ok (decodeCmd v) :=
  decode_accessWord true 0x08#8 v

/-- Settles O33: such a value is none of the ten opcodes, and CMD_ILLEGAL sets its sticky bit alone. -/
theorem illegalCommandSetsErrCmd : Obligations.IllegalCommandSetsErrCmd := by
  intro s v h
  constructor
  · rw [decode_accessWord_cmd, decodeCmd_illegal ((illegalCmdValue_iff v).mp h)]
  · rfl

/-- Settles O32: each command is the field updates of its rule and an accepted write. -/
theorem controlCommandEffects : Obligations.ControlCommandEffects := fun _ => ⟨rfl, rfl, rfl, rfl⟩

/-! The byte ports. -/

/-- RD_TX_DATA takes the first byte off TX and answers the word of it (R297). -/
theorem exec_rdTxData (s : State) :
    exec .rdTxData s = .next ((s.withTx s.tx.tail).withReply (.readOk (txHeadWord s))) := rfl

/-- RD_TX_DATA with a byte in TX answers that byte and takes it off (R297). -/
theorem exec_rdTxData_cons {s : State} {b : Byte} {rest : List Byte} (h : s.tx = b :: rest) :
    exec .rdTxData s = .next ((s.withTx rest).withReply (.readOk (b.setWidth 32))) := by
  rw [exec_rdTxData, txHeadWord, h, List.tail_cons]

/-- RD_TX_DATA with TX empty answers EMPTY and takes nothing off (R46, R297). -/
theorem exec_rdTxData_nil {s : State} (h : s.tx = []) :
    exec .rdTxData s = .next (s.withReply (.readOk 0x00000100#32)) := by
  have hpop : s.withTx s.tx.tail = s := by rw [h, List.tail_nil, ← h]; rfl
  rw [exec_rdTxData, hpop, txHeadWord, h]

/-- Settles O26: by the bytes in TX. -/
theorem txDataReadPopsOrReportsEmpty : Obligations.TxDataReadPopsOrReportsEmpty := by
  intro s
  constructor
  · intro b rest h
    rw [exec_rdTxData_cons h, BitVec.ofNat_toNat]
    rfl
  · exact exec_rdTxData_nil

/-- WR_RX_DATA pushes the low byte of the value and answers an accepted write (R296). -/
theorem exec_wrRxData (s : State) (v : Word) :
    exec (.wrRxData v) s = .next ((pushRx s (byteOf v)).withReply .writeOk) := rfl

/-- Settles O27: by the room in RX, of which a push knows two cases that exclude each other. -/
theorem rxDataWritePushesOrOverflows : Obligations.RxDataWritePushesOrOverflows := by
  intro s v
  rw [exec_wrRxData, BitVec.ofNat_toNat]
  obtain ⟨hroom, hpush⟩ | ⟨hfull, hpush⟩ := pushRx_cases s (byteOf v) <;> rw [hpush]
  · exact ⟨fun _ => rfl, fun hfull => absurd hroom (Nat.not_lt.mpr hfull)⟩
  · exact ⟨fun hroom => absurd hroom (Nat.not_lt.mpr hfull), fun _ => rfl⟩

/-! The operand registers, the configuration and the accesses that do nothing. -/

/-- The bits that a write of ARG_LEVEL keeps are the low three (R307). -/
theorem levelOf_eq (v : Word) : levelOf v = v.extractLsb' 0 3 := BitVec.setWidth_eq_extractLsb' (by decide)

/-- The bits that a write of ARG_DEST or ARG_SRC keeps are the low 17 (R309, R311). -/
theorem idOf_eq (v : Word) : idOf v = v.extractLsb' 0 17 := BitVec.setWidth_eq_extractLsb' (by decide)

/-- Settles O29: each write stores what its register keeps of the value, which is the low bits of it. -/
theorem operandWritesKeepTheirBits : Obligations.OperandWritesKeepTheirBits := by
  intro s v
  rw [← levelOf_eq, ← idOf_eq, ← byteOf_eq]
  exact ⟨rfl, rfl, rfl, rfl⟩

/-- Settles O21: each read answers its parameter of the build, and the default build has R8's defaults. -/
theorem configurationReads : Obligations.ConfigurationReads :=
  ⟨fun _ => ⟨rfl, rfl, rfl, rfl, rfl⟩, rfl, rfl, rfl, rfl, rfl⟩

/-- Settles O22: each of the three is the read as zero of R49. -/
theorem writeOnlyRegistersReadZero : Obligations.WriteOnlyRegistersReadZero := fun _ => ⟨rfl, rfl, rfl⟩

/-- Settles O31: the meaning of each of the eleven rows is the ignored write. -/
theorem readOnlyRegistersIgnoreWrites : Obligations.ReadOnlyRegistersIgnoreWrites := by
  intro i v s h
  simp only [List.mem_cons, List.not_mem_nil, or_false] at h
  obtain rfl | rfl | rfl | rfl | rfl | rfl | rfl | rfl | rfl | rfl | rfl := h <;> rfl

end Sys2Proof.Machine
end

