-- ==== Sys2Proof/Proofs/ResultRegister.lean ====
section
/-! SUPPORT. The operand, result and event registers (44_host_control.md R304 to R314), and who writes RESULT (R305): no
instruction but MX_GET changes it, and only the write of 5 to CMD is MX_GET. -/

namespace Sys2Proof

/-- MX_GET is the command with opcode 5 alone (R110). -/
theorem eq_of_decodeCmd_eq_mxGet {v : Word} (h : decodeCmd v = .mxGet) : v = 0x00000005#32 := by
  unfold decodeCmd at h
  split at h <;> cases h
  exact BitVec.eq_of_toNat_eq ‹_›

/-- No read of a register is MX_GET (R290). -/
theorem decodeRead_ne_mxGet (r : Reg) : decodeRead r ≠ .mxGet := by
  cases r <;> exact Instr.noConfusion

/-- The write of a register that is MX_GET is that of 5 to CMD (R110, R290). -/
theorem decodeWrite_eq_mxGet {r : Reg} {v : Word} (h : decodeWrite r v = .mxGet) : r = .cmd ∧ v = 0x00000005#32 := by
  cases r
  case cmd => exact ⟨rfl, eq_of_decodeCmd_eq_mxGet h⟩
  all_goals cases h

/-- The one access word that is MX_GET is the write of 5 to CMD (R101, R110). -/
theorem decode_accessWord_eq_mxGet {w : Bool} {off : Offset} {v : Word} (h : decode (accessWord w off v) = .ok .mxGet) :
    w = true ∧ off = 0x08#8 ∧ v = 0x00000005#32 := by
  rw [decode_accessWord] at h
  cases hr : regAt off with
  | none =>
    rw [hr] at h
    simpa using decodeUnmapped_mem h
  | some r =>
    rw [hr] at h
    cases w with
    | false => exact absurd (Except.ok.inj h) (decodeRead_ne_mxGet r)
    | true =>
      obtain ⟨rfl, hv⟩ := decodeWrite_eq_mxGet (Except.ok.inj h)
      exact ⟨rfl, eq_offset_of_regAt hr, hv⟩

end Sys2Proof

namespace Sys2Proof.Machine

/-! What leaves RESULT as it is. -/

/-- SET_XP keeps RESULT (R201, R204). -/
theorem setXpEffect_result (s : State) : (setXpEffect s).result = s.result := by
  obtain ⟨-, h⟩ | ⟨-, -, h⟩ | ⟨-, -, -, h⟩ | ⟨-, -, -, h⟩ := setXpEffect_cases s <;> rw [h] <;> rfl

/-- MX_SET keeps RESULT (R262). -/
theorem mxSetEffect_result (s : State) : (mxSetEffect s).result = s.result := by
  unfold mxSetEffect
  split <;> rfl

/-- A push keeps RESULT (R296). -/
theorem pushRx_result (s : State) (b : Byte) : (pushRx s b).result = s.result := by
  obtain ⟨-, h⟩ | ⟨-, h⟩ := pushRx_cases s b <;> rw [h] <;> rfl

/-- A commit keeps RESULT, whatever its verdict (R155, R165, R167, R169). -/
theorem applyVerdict_result (s : State) (f : List Byte) (verdict : FrameVerdict) :
    (applyVerdict s f verdict).result = s.result := by
  cases verdict with
  | drop d => rfl
  | banner =>
    show (handshake s).result = s.result
    obtain ⟨-, h⟩ | ⟨-, h⟩ := handshake_cases s <;> rw [h] <;> rfl
  | xp =>
    show (applyXp s f).result = s.result
    obtain ⟨-, h⟩ | ⟨c, -, -, h⟩ | ⟨c, -, -, -, h⟩ := applyXp_cases s f <;> rw [h] <;> rfl
  | dump =>
    obtain ⟨m, st, h, -⟩ := applyEntries_eq s (dumpEntries s.build.dumpDecoder f)
    show (applyDump s f).result = s.result
    rw [applyDump, h]
    rfl

/-- No instruction but MX_GET changes RESULT (R40, R305). -/
theorem exec_result_eq {i : Instr} {s t : State} (hi : i ≠ .mxGet) (h : exec i s = .next t) : t.result = s.result := by
  cases i
  case mxGet => exact absurd rfl hi
  case rxCommit => cases h; exact applyVerdict_result ..
  case setXp => cases h; exact setXpEffect_result s
  case mxSet => cases h; exact mxSetEffect_result s
  case wrRxData v => cases h; exact pushRx_result s (byteOf v)
  all_goals cases h; rfl

/-- A step that changes RESULT serves RST or MX_GET (R305). -/
theorem step_changes_result {s t : State} (h : step s = .next t) (hne : t.result ≠ s.result) :
    ∃ rest, s.pending = .rst :: rest ∨ s.pending = .memWrite 0x08#8 4 0x00000005#32 :: rest := by
  obtain ⟨-, rfl⟩ | ⟨rest, hp, -⟩ | ⟨w, off, n, v, rest, hp, -, ⟨-, rfl⟩ | ⟨hok, i, hd, he⟩⟩ := step_cases h
  · exact absurd rfl hne
  · exact ⟨rest, .inl hp⟩
  · exact absurd rfl hne
  · have hi : i = .mxGet := by_contra fun hi => absurd (exec_result_eq hi he) hne
    subst hi
    obtain ⟨rfl, rfl, rfl⟩ := decode_accessWord_eq_mxGet hd
    have hn : n = 4 := by_contra fun hn => by simp [(erredBeforeDecode_iff ..).mpr (.inl hn)] at hok
    exact ⟨rest, .inr (hn ▸ hp)⟩

/-- Settles O20: each read answers its register, and a step that changes RESULT serves one of the two host steps. -/
theorem operandAndResultReads : Obligations.OperandAndResultReads := by
  intro s
  simp only [BitVec.ofNat_toNat]
  exact ⟨rfl, rfl, rfl, rfl, rfl, rfl, rfl, fun _ => step_changes_result⟩

end Sys2Proof.Machine
end

/-! SUPPORT. Reset (70_reset_and_hazards.md R370 to R373): the step that serves RST, and the values the reset state reads at the
pieces of state that are not plain fields: each sticky bit, each matrix cell and IRQ. -/

namespace Sys2Proof.Machine

/-- A step serves RST at the head of the host's steps: the reset state of the same build, with the later steps still to be served
(R370). -/
theorem step_rst {s : State} {rest : List HostStep} (h : s.pending = .rst :: rest) :
    step s = .next ((State.resetOf s.build).withPending rest) := by
  simp only [step, h, applyReset_eq, withPending_build, withPending_pending]

/-- Every sticky bit reads 0 right after reset (R372). -/
theorem resetOf_stickyBit (b : Build) (bit : StickyBit) : (State.resetOf b).sticky.get bit = false := by
  cases bit <;> rfl

/-- Every matrix cell reads absent right after reset (R372, R373). -/
theorem resetOf_cell (b : Build) (c : Level) (d : Nat) : (State.resetOf b).cell c d = 0#17 :=
  readCell_nil (cellNumber c d)

/-- IRQ is a function of CTRL and STATUS, so it does not see the host's steps (R340). -/
theorem irq_withPending (s : State) (steps : List HostStep) : irq (s.withPending steps) = irq s := rfl

/-- Settles O8: the step answers the reset state of the build, which holds the table of R372 and differs in the host's steps
alone; the plain registers are its fields. -/
theorem resetStepRestoresResetValues : Obligations.ResetStepRestoresResetValues := by
  intro s rest h
  have hirq : irq ((State.resetOf s.build).withPending rest) = false :=
    (irq_withPending ..).trans (irq_resetOf s.build)
  exact ⟨_, step_rst h, rfl, resetOf_stickyBit s.build, rfl, rfl, rfl, rfl, rfl, rfl, rfl, rfl, rfl, rfl, rfl,
    resetOf_cell s.build, hirq, rfl⟩

end Sys2Proof.Machine

/-! SUPPORT. The decoder and the encoder of access words undo each other (30_encoding.md R101, R102, R110), and the decoder
follows the rows of the opcode table, `A & mask == match`. -/

namespace Sys2Proof

/-! What the decoder answers to a word given by its fields. -/

/-- The register map finds each register at its own offset (R33). -/
theorem regAt_offset (r : Reg) : regAt r.offset = some r := by
  cases r <;> rfl

/-- Every register lies at a multiple of 4 (R33, R85). -/
theorem Reg.offset_aligned (r : Reg) : r.offset.toNat % 4 = 0 := by
  cases r <;> rfl

/-- The read of a register decodes to the instruction of that read (R101, R290). -/
theorem decode_readReg (r : Reg) : decode (accessWord false r.offset 0#32) = .ok (decodeRead r) := by
  rw [decode_accessWord, regAt_offset]
  rfl

/-- The write of a register decodes to the instruction of that write (R101, R290). -/
theorem decode_writeReg (r : Reg) (v : Word) : decode (accessWord true r.offset v) = .ok (decodeWrite r v) := by
  rw [decode_accessWord, regAt_offset]
  rfl

/-- A masked offset is no more than the offset: one that lies in an UNMAPPED row is not below the row's pattern (R101). -/
theorem le_toNat_of_and_eq {off mask pattern : Offset} (h : off &&& mask = pattern) : pattern.toNat ≤ off.toNat := by
  rw [← h, BitVec.toNat_and]
  exact Nat.and_le_left

/-- A word of an offset that lies in an UNMAPPED row is left to the UNMAPPED part of the decoder (R101). -/
theorem decode_accessWord_row (w : Bool) {off mask pattern : Offset} (v : Word) (h : off &&& mask = pattern)
    (hpattern : 0x54 ≤ pattern.toNat) : decode (accessWord w off v) = decodeUnmapped w off v :=
  decode_accessWord_unmapped w v (hpattern.trans (le_toNat_of_and_eq h))

section UnmappedRows

variable (w : Bool) {off : Offset} (v : Word)

/-- The offset 0x54 is UNMAPPED_54 (R101). -/
theorem decodeUnmapped_54 (h : off &&& 0xFC#8 = 0x54#8) : decodeUnmapped w off v = .ok (.unmapped54 w off v) :=
  if_pos h

/-- The offsets 0x58 and 0x5C are UNMAPPED_58 (R101). -/
theorem decodeUnmapped_58 (h : off &&& 0xF8#8 = 0x58#8) : decodeUnmapped w off v = .ok (.unmapped58 w off v) := by
  have hrows : ∀ o : Offset, o &&& 0xF8#8 = 0x58#8 → o &&& 0xFC#8 ≠ 0x54#8 := by decide
  rw [decodeUnmapped, if_neg (hrows off h), if_pos h]

/-- The offsets 0x60..0x7C are UNMAPPED_60 (R101). -/
theorem decodeUnmapped_60 (h : off &&& 0xE0#8 = 0x60#8) : decodeUnmapped w off v = .ok (.unmapped60 w off v) := by
  have hrows : ∀ o : Offset, o &&& 0xE0#8 = 0x60#8 → o &&& 0xFC#8 ≠ 0x54#8 ∧ o &&& 0xF8#8 ≠ 0x58#8 := by decide
  obtain ⟨h54, h58⟩ := hrows off h
  rw [decodeUnmapped, if_neg h54, if_neg h58, if_pos h]

/-- The offsets from 0x80 on are UNMAPPED_80 (R101). -/
theorem decodeUnmapped_80 (h : off &&& 0x80#8 = 0x80#8) : decodeUnmapped w off v = .ok (.unmapped80 w off v) := by
  have hrows : ∀ o : Offset, o &&& 0x80#8 = 0x80#8 →
      o &&& 0xFC#8 ≠ 0x54#8 ∧ o &&& 0xF8#8 ≠ 0x58#8 ∧ o &&& 0xE0#8 ≠ 0x60#8 := by decide
  obtain ⟨h54, h58, h60⟩ := hrows off h
  rw [decodeUnmapped, if_neg h54, if_neg h58, if_neg h60, if_pos h]

end UnmappedRows

/-- Settles O1: a register's word is decoded by its offset; the value of CMD_ILLEGAL is none of the ten opcodes; the offset of
an UNMAPPED row lies in that row alone. -/
theorem decodeOfEncodeIsIdentity : Obligations.DecodeOfEncodeIsIdentity := by
  intro i hi
  cases i
  case cmdIllegal v =>
    rw [encode, Machine.decode_accessWord_cmd,
      Machine.decodeCmd_illegal ((Machine.illegalCmdValue_iff v).mp ((wellFormed_cmdIllegal v).mp hi))]
  case unmapped54 w off v =>
    obtain ⟨hrow, -⟩ := (wellFormed_unmapped54 w off v).mp hi
    rw [encode, decode_accessWord_row w v hrow (by decide), decodeUnmapped_54 w v hrow]
  case unmapped58 w off v =>
    obtain ⟨hrow, -⟩ := (wellFormed_unmapped58 w off v).mp hi
    rw [encode, decode_accessWord_row w v hrow (by decide), decodeUnmapped_58 w v hrow]
  case unmapped60 w off v =>
    obtain ⟨hrow, -⟩ := (wellFormed_unmapped60 w off v).mp hi
    rw [encode, decode_accessWord_row w v hrow (by decide), decodeUnmapped_60 w v hrow]
  case unmapped80 w off v =>
    obtain ⟨hrow, -⟩ := (wellFormed_unmapped80 w off v).mp hi
    rw [encode, decode_accessWord_row w v hrow (by decide), decodeUnmapped_80 w v hrow]
  all_goals exact decode_accessWord _ _ _


/-! What the encoder writes for what the decoder answers. -/

/-- The instruction of a read is well formed, and its word is the read of the register's offset with DATA 0 (R101). -/
theorem encode_decodeRead (r : Reg) :
    WellFormed (decodeRead r) ∧ encode (decodeRead r) = accessWord false r.offset 0#32 := by
  cases r <;> exact ⟨rfl, rfl⟩

/-- A value of CMD is CMD_ILLEGAL or one of the ten opcodes (R110, R111). -/
theorem decodeCmd_illegal_or_opcode (v : Word) :
    (0x0A ≤ v.toNat ∧ decodeCmd v = .cmdIllegal v) ∨ ∃ n < 0x0A, v = BitVec.ofNat 32 n := by
  by_cases h : 0x0A ≤ v.toNat
  · exact .inl ⟨h, Machine.decodeCmd_illegal h⟩
  · exact .inr ⟨v.toNat, Nat.lt_of_not_le h, by simp⟩

/-- The command of a value of CMD is well formed, and its word is the write of that value to CMD (R102, R110, R111). -/
theorem encode_decodeCmd (v : Word) :
    WellFormed (decodeCmd v) ∧ encode (decodeCmd v) = accessWord true Reg.cmd.offset v := by
  obtain ⟨hillegal, hcmd⟩ | ⟨n, hn, rfl⟩ := decodeCmd_illegal_or_opcode v
  · rw [hcmd]
    exact ⟨(wellFormed_cmdIllegal v).mpr ((Machine.illegalCmdValue_iff v).mpr hillegal), rfl⟩
  · revert n
    decide

/-- The instruction of a write is well formed, and its word is that write (R101). -/
theorem encode_decodeWrite (r : Reg) (v : Word) :
    WellFormed (decodeWrite r v) ∧ encode (decodeWrite r v) = accessWord true r.offset v := by
  cases r
  case cmd => exact encode_decodeCmd v
  all_goals exact ⟨rfl, rfl⟩

/-- The row that the UNMAPPED part of the decoder answers is well formed for an access word, and has that word (R101). -/
theorem encode_of_decodeUnmapped {w : Bool} {off : Offset} {v : Word} {i : Instr} (haligned : off &&& 0x03#8 = 0#8)
    (hread : w = false → v = 0#32) (h : decodeUnmapped w off v = .ok i) :
    WellFormed i ∧ encode i = accessWord w off v := by
  unfold decodeUnmapped at h
  split_ifs at h with h54 h58 h60 h80 <;> cases h
  · exact ⟨(wellFormed_unmapped54 w off v).mpr ⟨h54, haligned, hread⟩, rfl⟩
  · exact ⟨(wellFormed_unmapped58 w off v).mpr ⟨h58, haligned, hread⟩, rfl⟩
  · exact ⟨(wellFormed_unmapped60 w off v).mpr ⟨h60, haligned, hread⟩, rfl⟩
  · exact ⟨(wellFormed_unmapped80 w off v).mpr ⟨h80, haligned, hread⟩, rfl⟩

/-- The encoder undoes the decoder on the access words of R101. -/
theorem encode_of_decode {a : AccessWord} {i : Instr} (ha : isAccessWord a) (h : decode a = .ok i) :
    WellFormed i ∧ encode i = a := by
  obtain ⟨haligned, hread⟩ := ha
  rw [← accessWord_fields a] at h ⊢
  generalize fieldW a = w, fieldOff a = off, fieldData a = v at *
  rw [decode_accessWord] at h
  cases hr : regAt off with
  | none =>
    rw [hr] at h
    exact encode_of_decodeUnmapped haligned hread h
  | some r =>
    rw [hr] at h
    cases eq_offset_of_regAt hr
    cases w <;> cases h
    · rw [hread rfl]
      exact encode_decodeRead r
    · exact encode_decodeWrite r v

/-- An aligned offset is a register's or lies in an UNMAPPED row (R33, R101). -/
theorem regAt_or_unmappedRow_of_aligned : ∀ off : Offset, off &&& 0x03#8 = 0#8 → regAt off ≠ none ∨
    off &&& 0xFC#8 = 0x54#8 ∨ off &&& 0xF8#8 = 0x58#8 ∨ off &&& 0xE0#8 = 0x60#8 ∨ off &&& 0x80#8 = 0x80#8 := by
  decide

/-- The decoder refuses no word of an aligned offset (R85, R101). -/
theorem exists_decode_of_aligned {a : AccessWord} (h : fieldOff a &&& 0x03#8 = 0#8) : ∃ i, decode a = .ok i := by
  rw [← accessWord_fields a, decode_accessWord]
  generalize fieldW a = w, fieldOff a = off, fieldData a = v at *
  obtain hreg | hrow := regAt_or_unmappedRow_of_aligned off h
  · obtain ⟨r, hr⟩ := Option.ne_none_iff_exists'.mp hreg
    exact ⟨_, by rw [hr]⟩
  · obtain hrow | hrow | hrow | hrow := hrow <;> rw [regAt_eq_none (le_trans (by decide) (le_toNat_of_and_eq hrow))]
    · exact ⟨_, decodeUnmapped_54 w v hrow⟩
    · exact ⟨_, decodeUnmapped_58 w v hrow⟩
    · exact ⟨_, decodeUnmapped_60 w v hrow⟩
    · exact ⟨_, decodeUnmapped_80 w v hrow⟩

/-- Settles O2: the decoder refuses no aligned word, the encoder undoes it there, and a second well-formed instruction with the
same word would decode to itself. -/
theorem everyAccessWordIsOneInstruction : Obligations.EveryAccessWordIsOneInstruction := by
  intro a ha
  obtain ⟨i, hi⟩ := exists_decode_of_aligned ha.1
  obtain ⟨hwf, henc⟩ := encode_of_decode ha hi
  refine ⟨i, hi, hwf, henc, fun j hj hja => ?_⟩
  have hj : decode a = .ok j := hja ▸ decodeOfEncodeIsIdentity j hj
  exact Except.ok.inj (hj.symm.trans hi)

/-! The rows of the opcode table. -/

/-- A row that fixes only bits of OFF is selected by the offset alone (R101). -/
theorem selects_offsetRow_iff (w : Bool) (off mask pattern : Offset) (v : Word) :
    accessWord w off v &&& accessWord false mask 0#32 = accessWord false pattern 0#32 ↔ off &&& mask = pattern := by
  rw [accessWord_and, Bool.and_false, BitVec.and_zero]
  constructor <;> intro h
  · simpa using congrArg fieldOff h
  · rw [h]

/-- A read is decoded to the row of its register, whatever its DATA (R101; log entry 9). -/
theorem decodeRead_selectsRow (r : Reg) (v : Word) : selectsRow (accessWord false r.offset v) (decodeRead r) := by
  cases r <;> exact accessWord_and_rowMask _ _ v

/-- A write is decoded to the row of its register, and a write of CMD to the row of its command (R101, R110). -/
theorem decodeWrite_selectsRow (r : Reg) (v : Word) : selectsRow (accessWord true r.offset v) (decodeWrite r v) := by
  cases r
  case cmd =>
    obtain ⟨-, hcmd⟩ | ⟨n, hn, rfl⟩ := decodeCmd_illegal_or_opcode v
    · rw [decodeWrite, hcmd]
      exact accessWord_and_rowMask _ _ v
    · revert n
      decide
  all_goals exact accessWord_and_rowMask _ _ v

/-- The UNMAPPED row that the decoder answers is one the word lies in (R101). -/
theorem decodeUnmapped_selectsRow {w : Bool} {off : Offset} {v : Word} {i : Instr}
    (h : decodeUnmapped w off v = .ok i) : selectsRow (accessWord w off v) i := by
  unfold decodeUnmapped at h
  split_ifs at h with h54 h58 h60 h80 <;> cases h
  · exact (selects_offsetRow_iff w off 0xFC#8 0x54#8 v).mpr h54
  · exact (selects_offsetRow_iff w off 0xF8#8 0x58#8 v).mpr h58
  · exact (selects_offsetRow_iff w off 0xE0#8 0x60#8 v).mpr h60
  · exact (selects_offsetRow_iff w off 0x80#8 0x80#8 v).mpr h80

/-- A word that decodes to an instruction lies in that instruction's row (R101). -/
theorem selectsRow_of_decode {a : AccessWord} {i : Instr} (h : decode a = .ok i) : selectsRow a i := by
  rw [← accessWord_fields a] at h ⊢
  generalize fieldW a = w, fieldOff a = off, fieldData a = v at *
  rw [decode_accessWord] at h
  cases hr : regAt off with
  | none =>
    rw [hr] at h
    exact decodeUnmapped_selectsRow h
  | some r =>
    rw [hr] at h
    cases eq_offset_of_regAt hr
    cases w <;> cases h
    · exact decodeRead_selectsRow r v
    · exact decodeWrite_selectsRow r v

/-- A word in a row that fixes W and OFF has the W and the OFF of the row (R101). -/
theorem eq_accessWord_of_and_rowMask {a m : AccessWord} (h : a &&& 0x1FF00000000#41 = m) :
    a = accessWord (fieldW m) (fieldOff m) (fieldData a) := by
  rw [← accessWord_fields a, accessWord_and_rowMask] at h
  rw [← h, fieldW_accessWord, fieldOff_accessWord, accessWord_fields]

/-- A word in a row that fixes only bits of OFF, on unmapped offsets, is left to the UNMAPPED part of the decoder (R101). -/
theorem decode_of_offsetRow {a : AccessWord} {mask pattern : Offset} (hpattern : 0x54 ≤ pattern.toNat)
    (h : a &&& accessWord false mask 0#32 = accessWord false pattern 0#32) :
    fieldOff a &&& mask = pattern ∧ decode a = decodeUnmapped (fieldW a) (fieldOff a) (fieldData a) := by
  rw [← accessWord_fields a, selects_offsetRow_iff] at h
  have hdecode := decode_accessWord_row (fieldW a) (fieldData a) h hpattern
  rw [accessWord_fields] at hdecode
  exact ⟨h, hdecode⟩

/-- A word in the row of an instruction other than CMD_ILLEGAL decodes to an instruction of that row: a command's row is the
one word of it, a register's row fixes W and OFF, an UNMAPPED row bits of OFF (R101). -/
theorem exists_decode_of_selectsRow {a : AccessWord} {j : Instr} (hj : ∀ v, j ≠ .cmdIllegal v) (h : selectsRow a j) :
    ∃ i, decode a = .ok i ∧ rowMask i = rowMask j ∧ rowMatch i = rowMatch j := by
  cases j
  case nop | rxCommit | rxClear | txClear | setXp | mxGet | mxSet | mxClear | crcInit | linkDown =>
    obtain rfl : a = rowMatch _ := (BitVec.and_allOnes (x := a)).symm.trans h
    exact ⟨_, rfl, rfl, rfl⟩
  case cmdIllegal v => exact absurd rfl (hj v)
  case unmapped54 =>
    obtain ⟨hrow, hdecode⟩ := decode_of_offsetRow (mask := 0xFC#8) (pattern := 0x54#8) (by decide) h
    exact ⟨_, hdecode.trans (decodeUnmapped_54 _ _ hrow), rfl, rfl⟩
  case unmapped58 =>
    obtain ⟨hrow, hdecode⟩ := decode_of_offsetRow (mask := 0xF8#8) (pattern := 0x58#8) (by decide) h
    exact ⟨_, hdecode.trans (decodeUnmapped_58 _ _ hrow), rfl, rfl⟩
  case unmapped60 =>
    obtain ⟨hrow, hdecode⟩ := decode_of_offsetRow (mask := 0xE0#8) (pattern := 0x60#8) (by decide) h
    exact ⟨_, hdecode.trans (decodeUnmapped_60 _ _ hrow), rfl, rfl⟩
  case unmapped80 =>
    obtain ⟨hrow, hdecode⟩ := decode_of_offsetRow (mask := 0x80#8) (pattern := 0x80#8) (by decide) h
    exact ⟨_, hdecode.trans (decodeUnmapped_80 _ _ hrow), rfl, rfl⟩
  all_goals
    simp only [selectsRow, rowMask, rowMatch] at h
    rw [eq_accessWord_of_and_rowMask h]
    exact ⟨_, decode_accessWord _ _ _, rfl, rfl⟩

/-- A word in the row of CMD_ILLEGAL and in no other decodes to CMD_ILLEGAL: were its DATA an opcode, the word would lie in
that command's row (R111). -/
theorem decode_of_selects_only_cmdIllegal {a : AccessWord} (h : selectsRow a (.cmdIllegal (fieldData a)))
    (hother : ∀ j, (∀ v, j ≠ .cmdIllegal v) → ¬selectsRow a j) : decode a = .ok (.cmdIllegal (fieldData a)) := by
  simp only [selectsRow, rowMask, rowMatch] at h
  have hdecode : decode a = .ok (decodeCmd (fieldData a)) :=
    (congrArg decode (eq_accessWord_of_and_rowMask h)).trans (Machine.decode_accessWord_cmd (fieldData a))
  obtain ⟨-, hcmd⟩ | ⟨n, hn, hdata⟩ := decodeCmd_illegal_or_opcode (fieldData a)
  · rw [hdecode, hcmd]
  · have hne : ∀ n < 0x0A, ∀ v, decodeCmd (BitVec.ofNat 32 n) ≠ .cmdIllegal v := by
      intro n hn
      interval_cases n <;> exact fun _ => Instr.noConfusion
    exact absurd (selectsRow_of_decode hdecode) (hother _ (hdata ▸ hne n hn))

/-- Settles O3: each direction is one of the three lemmas on rows. -/
theorem decoderFollowsMatchAndMask : Obligations.DecoderFollowsMatchAndMask :=
  ⟨fun _ _ => selectsRow_of_decode, fun _ _ => exists_decode_of_selectsRow, fun _ => decode_of_selects_only_cmdIllegal⟩

/-- Settles O4: the decoder evaluates on each word to the access that the program names. -/
theorem specAccessWordsDecode : Obligations.SpecAccessWordsDecode :=
  ⟨rfl, rfl, rfl, rfl, rfl, rfl, rfl, rfl, rfl⟩

end Sys2Proof

/-! SUPPORT. What an instruction can do to the state, said once (R155, R165, R167, R169, R290): the outcomes of a commit and the
outcomes of any instruction, each as the fields it replaces, with the checks that led to it. -/

namespace Sys2Proof.Machine

/-! The outcomes of a commit. -/

/-- The verdict is no drop for a crosspoint or for want of room in TX, which only the application of a frame finds (R333). -/
def beforeApplication (verdict : FrameVerdict) : Prop := verdict ≠ .drop .bounds ∧ verdict ≠ .drop .txFull

/-- The checks of R151 up to the checksum never drop a frame for its crosspoint or for want of room in TX (R333). -/
theorem frameVerdict_beforeApplication (tag : List Byte) (ctrl : Word) (hsDone rxOvf : Bool) (f : List Byte) :
    beforeApplication (frameVerdict tag ctrl hsDone rxOvf f) := by
  unfold frameVerdict optionalChecks
  repeat' refine iteInduction (fun _ => ?_) (fun _ => ?_)
  all_goals exact ⟨nofun, nofun⟩

/-- The sticky bits after a drop: ERR_DROP, with ERR_BOUNDS for BOUNDS and ERR_TX_OVF for TX_FULL (R155, R165, R169). -/
def dropSticky (st : Sticky) (r : DropReason) : Sticky :=
  { st with
    errDrop := true
    errBounds := st.errBounds || decide (r = .bounds)
    errTxOvf := st.errTxOvf || decide (r = .txFull) }

/-- For every other reason a drop sets ERR_DROP alone (R169). -/
theorem dropSticky_of_ne {r : DropReason} (st : Sticky) (hbounds : r ≠ .bounds) (hfull : r ≠ .txFull) :
    dropSticky st r = st.set .errDrop := by
  simp [dropSticky, Sticky.set, hbounds, hfull]

theorem dropSticky_bounds (st : Sticky) : dropSticky st .bounds = (st.set .errBounds).set .errDrop := by
  simp [dropSticky, Sticky.set]

theorem dropSticky_txFull (st : Sticky) : dropSticky st .txFull = (st.set .errTxOvf).set .errDrop := by
  simp [dropSticky, Sticky.set]

/-- A drop clears no sticky bit (R36). -/
theorem dropSticky_get (st : Sticky) (r : DropReason) {bit : StickyBit} (h : st.get bit = true) :
    (dropSticky st r).get bit = true := by
  cases bit <;> simp_all [dropSticky, Sticky.get]

/-- The level, the destination and the source of a crosspoint are in the ranges of the build (R260). -/
abbrev crosspointInRange (b : Build) (c : Level) (d : Nat) (src : PublicId) : Prop :=
  c.toNat < b.numLevels ∧ 1 ≤ d ∧ d ≤ b.numOutputs ∧ src.toNat ≤ b.numInputs

/-- The states a commit can leave, but for the reply: the frame dropped, the banner answered, one crosspoint applied, or the
entries of a dump applied. Each starts from the state with RX emptied (R168). -/
inductive CommitOutcome (s : State) : State → Prop
  | drop (r : DropReason) :
      CommitOutcome s (((emptyRx s).withSticky (dropSticky s.sticky r)).withLastEvent (dropEvent r))
  | handshake (hovf : s.rxOvf = false) (hbanner : startsWithWelcome s.rx) (hroom : 23 ≤ s.build.txMax - s.tx.length) :
      CommitOutcome s (((((emptyRx s).withTx (s.tx ++ s.build.initFrame.toList)).withHsDone true).withSticky
        (s.sticky.set .evHs)).withLastEvent handshakeEvent)
  | xp (c : Level) (d src : PublicId) (hrange : crosspointInRange s.build c d.toNat src) :
      CommitOutcome s ((((emptyRx s).withMatrix (writeCell s.matrix (cellNumber c d.toNat) src)).withSticky
        (s.sticky.set .evXp)).withLastEvent (xpEvent c d))
  | dump (m : RoutingMatrix) (st : Sticky)
      (hentries : applyEntries (emptyRx s) (dumpEntries s.build.dumpDecoder s.rx) =
        ((emptyRx s).withMatrix m).withSticky st)
      (hsticky : st = s.sticky ∨ st = s.sticky.set .errBounds) :
      CommitOutcome s ((((emptyRx s).withMatrix m).withSticky (st.set .evReady)).withLastEvent
        (readyEvent s.build.dumpLevel (dumpCount s.rx)))

/-- The banner is answered or dropped as TX_FULL (R155). -/
theorem handshake_outcome {s : State} (hovf : s.rxOvf = false) (hbanner : startsWithWelcome s.rx) :
    CommitOutcome s (handshake (emptyRx s)) := by
  obtain ⟨hroom, h⟩ | ⟨-, h⟩ := handshake_cases (emptyRx s) <;> rw [h]
  · exact .handshake hovf hbanner hroom
  · have hdrop := CommitOutcome.drop (s := s) .txFull
    rwa [dropSticky_txFull] at hdrop

/-- An XP frame is dropped as BAD_MASK or BOUNDS, or its crosspoint is applied (R164, R165). -/
theorem applyXp_outcome (s : State) : CommitOutcome s (applyXp (emptyRx s) s.rx) := by
  obtain ⟨-, h⟩ | ⟨c, -, -, h⟩ | ⟨c, hlevel, hdest, hsource, h⟩ := applyXp_cases (emptyRx s) s.rx <;> rw [h]
  · have hdrop := CommitOutcome.drop (s := s) .badMask
    rwa [dropSticky_of_ne _ (by decide) (by decide)] at hdrop
  · have hdrop := CommitOutcome.drop (s := s) .bounds
    rwa [dropSticky_bounds] at hdrop
  · have hpos : 1 ≤ (publicOfWire (xpWireDest s.rx)).toNat := by rw [publicOfWire_toNat]; omega
    exact .xp c _ _ ⟨(levelOfMask_some hlevel).1, hpos, hdest, hsource⟩

/-- A dump is its entries and the record of them (R167). -/
theorem applyDump_eq {s : State} {f : List Byte} {m : RoutingMatrix} {st : Sticky}
    (h : applyEntries s (dumpEntries s.build.dumpDecoder f) = (s.withMatrix m).withSticky st) :
    applyDump s f =
      ((s.withMatrix m).withSticky (st.set .evReady)).withLastEvent (readyEvent s.build.dumpLevel (dumpCount f)) := by
  rw [applyDump, h]
  rfl

/-- A dump is always applied, its entries in range or skipped (R167). -/
theorem applyDump_outcome (s : State) : CommitOutcome s (applyDump (emptyRx s) s.rx) := by
  obtain ⟨m, st, h, hst⟩ := applyEntries_eq (emptyRx s) (dumpEntries s.build.dumpDecoder s.rx)
  rw [applyDump_eq h]
  exact .dump m st h hst

/-- Every commit has one of the outcomes (R150, R151). -/
theorem commitEffect_outcome (s : State) : CommitOutcome s (commitEffect s) := by
  unfold commitEffect
  obtain ⟨r, h⟩ | ⟨hovf, hbanner, h⟩ | ⟨-, -, h⟩ | ⟨-, -, -, h⟩ :=
    frameVerdict_cases s.build.tag s.ctrl s.hsDone s.rxOvf s.rx
  · obtain ⟨hbounds, hfull⟩ := frameVerdict_beforeApplication s.build.tag s.ctrl s.hsDone s.rxOvf s.rx
    have hdrop := CommitOutcome.drop (s := s) r
    rw [dropSticky_of_ne _ (fun hr => hbounds (hr ▸ h)) (fun hr => hfull (hr ▸ h))] at hdrop
    rwa [h]
  · rw [h]
    exact handshake_outcome hovf ((isBanner_iff s.rx).mp hbanner)
  · rw [h]
    exact applyXp_outcome s
  · rw [h]
    exact applyDump_outcome s

/-! The outcomes of an instruction. -/

/-- The instruction writes the CRC register (R42). -/
abbrev WritesCrc (i : Instr) : Prop := i = .crcInit ∨ (∃ v, i = .wrCrcValue v) ∨ ∃ v, i = .wrCrcData v

/-- The states an instruction can leave, but for the reply: the state as it was, one more sticky bit, or what the
instruction's own rule replaces. `unchanged` and `flagged` do not say which instructions they are for (reads, ignored writes
and errors), since no rule on who writes what asks for it. -/
inductive ExecOutcome (s : State) : Instr → State → Prop
  | unchanged (i : Instr) : ExecOutcome s i s
  | flagged (i : Instr) (bit : StickyBit) : ExecOutcome s i (s.withSticky (s.sticky.set bit))
  | committed {u : State} (h : CommitOutcome s u) : ExecOutcome s .rxCommit u
  | rxCleared : ExecOutcome s .rxClear (emptyRx s)
  | txCleared : ExecOutcome s .txClear (s.withTx [])
  | sent (hroom : 24 ≤ s.build.txMax - s.tx.length) :
      ExecOutcome s .setXp (s.withTx (s.tx ++ encodeSet s.build s.argLevel s.argDest s.argSrc s.tbusAddr))
  | sentAndSet (hroom : 24 ≤ s.build.txMax - s.tx.length) (hopt : optWr s.ctrl = true)
      (hrange : crosspointInRange s.build s.argLevel s.argDest.toNat s.argSrc) :
      ExecOutcome s .setXp
        ((s.withTx (s.tx ++ encodeSet s.build s.argLevel s.argDest s.argSrc s.tbusAddr)).withMatrix
          (writeCell s.matrix (cellNumber s.argLevel s.argDest.toNat) s.argSrc))
  | gotCell : ExecOutcome s .mxGet (s.withResult (s.cell s.argLevel s.argDest.toNat))
  | gotNothing : ExecOutcome s .mxGet ((s.withResult 0#17).withSticky (s.sticky.set .errBounds))
  | cellSet (hrange : crosspointInRange s.build s.argLevel s.argDest.toNat s.argSrc) :
      ExecOutcome s .mxSet (s.withMatrix (writeCell s.matrix (cellNumber s.argLevel s.argDest.toNat) s.argSrc))
  | matrixCleared : ExecOutcome s .mxClear (s.withMatrix [])
  | linkDown : ExecOutcome s .linkDown (emptyRx (s.withHsDone false))
  | crcWritten (i : Instr) (hi : WritesCrc i) (k : Half) : ExecOutcome s i (s.withCrc k)
  | popped : ExecOutcome s .rdTxData (s.withTx s.tx.tail)
  | pushed (v : Word) (hroom : s.rx.length < s.build.rxMax) :
      ExecOutcome s (.wrRxData v) (s.withRx (s.rx ++ [byteOf v]))
  | overflowed (v : Word) : ExecOutcome s (.wrRxData v) (s.withRxOvf true)
  | ctrlWritten (v : Word) : ExecOutcome s (.wrCtrl v) (s.withCtrl (ctrlOf v))
  | statusCleared (v : Word) : ExecOutcome s (.wrStatus v) (s.withSticky (s.sticky.w1c v))
  | argLevelWritten (v : Word) : ExecOutcome s (.wrArgLevel v) (s.withArgLevel (levelOf v))
  | argDestWritten (v : Word) : ExecOutcome s (.wrArgDest v) (s.withArgDest (idOf v))
  | argSrcWritten (v : Word) : ExecOutcome s (.wrArgSrc v) (s.withArgSrc (idOf v))
  | tbusAddrWritten (v : Word) : ExecOutcome s (.wrTbusAddr v) (s.withTbusAddr (byteOf v))

/-- SET_XP rejects its operands or the want of room, or sends a frame, with the cell written under OPT_WR (R201, R204). -/
theorem setXpEffect_outcome (s : State) : ExecOutcome s .setXp (setXpEffect s) := by
  obtain ⟨-, h⟩ | ⟨-, -, h⟩ | ⟨hops, hroom, hopt, h⟩ | ⟨-, hroom, -, h⟩ := setXpEffect_cases s <;> rw [h]
  · exact .flagged _ _
  · exact .flagged _ _
  · obtain ⟨hlevel, hdest, hdest', -, hsource⟩ := (setXpOperandsOk_iff ..).mp hops
    exact .sentAndSet hroom hopt ⟨hlevel, hdest, hdest', hsource⟩
  · exact .sent hroom

/-- MX_GET reads the cell, or answers 0 and the error (R261). -/
theorem mxGetEffect_outcome (s : State) : ExecOutcome s .mxGet (mxGetEffect s) := by
  cases h : indexInRange s.build s.argLevel s.argDest.toNat
  · rw [mxGetEffect_outOfRange h]
    exact .gotNothing
  · rw [mxGetEffect_inRange h]
    exact .gotCell

/-- MX_SET writes the cell, or sets the error (R262). -/
theorem mxSetEffect_outcome (s : State) : ExecOutcome s .mxSet (mxSetEffect s) := by
  cases h : indexInRange s.build s.argLevel s.argDest.toNat && sourceInRange s.build s.argSrc
  · rw [mxSetEffect_outOfRange h]
    exact .flagged _ _
  · obtain ⟨hindex, hsource⟩ := Bool.and_eq_true_iff.mp h
    obtain ⟨hlevel, hdest, hdest'⟩ := (indexInRange_iff ..).mp hindex
    rw [mxSetEffect_inRange h]
    exact .cellSet ⟨hlevel, hdest, hdest', (sourceInRange_iff ..).mp hsource⟩

/-- A push appends the byte, or reports that RX is full (R296). -/
theorem pushRx_outcome (s : State) (v : Word) : ExecOutcome s (.wrRxData v) (pushRx s (byteOf v)) := by
  obtain ⟨hroom, h⟩ | ⟨-, h⟩ := pushRx_cases s (byteOf v) <;> rw [h]
  · exact .pushed v hroom
  · exact .overflowed v

/-- Every instruction answers a next state, which is one of its outcomes with the reply recorded (R290, R330). -/
theorem exec_outcome (i : Instr) (s : State) : ∃ u r, exec i s = .next (u.withReply r) ∧ ExecOutcome s i u := by
  cases i
  case rxCommit => exact ⟨_, _, rfl, .committed (commitEffect_outcome s)⟩
  case rxClear => exact ⟨_, _, rfl, .rxCleared⟩
  case txClear => exact ⟨_, _, rfl, .txCleared⟩
  case setXp => exact ⟨_, _, rfl, setXpEffect_outcome s⟩
  case mxGet => exact ⟨_, _, rfl, mxGetEffect_outcome s⟩
  case mxSet => exact ⟨_, _, rfl, mxSetEffect_outcome s⟩
  case mxClear => exact ⟨_, _, rfl, .matrixCleared⟩
  case crcInit => exact ⟨_, _, rfl, .crcWritten _ (.inl rfl) _⟩
  case linkDown => exact ⟨_, _, rfl, .linkDown⟩
  case cmdIllegal => exact ⟨_, _, rfl, .flagged _ .errCmd⟩
  case rdTxData => exact ⟨_, _, rfl, .popped⟩
  case wrCtrl v => exact ⟨_, _, rfl, .ctrlWritten v⟩
  case wrStatus v => exact ⟨_, _, rfl, .statusCleared v⟩
  case wrArgLevel v => exact ⟨_, _, rfl, .argLevelWritten v⟩
  case wrArgDest v => exact ⟨_, _, rfl, .argDestWritten v⟩
  case wrArgSrc v => exact ⟨_, _, rfl, .argSrcWritten v⟩
  case wrTbusAddr v => exact ⟨_, _, rfl, .tbusAddrWritten v⟩
  case wrRxData v => exact ⟨_, _, rfl, pushRx_outcome s v⟩
  case wrCrcValue v => exact ⟨_, _, rfl, .crcWritten _ (.inr (.inl ⟨v, rfl⟩)) _⟩
  case wrCrcData v => exact ⟨_, _, rfl, .crcWritten _ (.inr (.inr ⟨v, rfl⟩)) _⟩
  case unmapped54 | unmapped58 | unmapped60 | unmapped80 => exact ⟨_, _, rfl, .flagged _ .errBus⟩
  all_goals exact ⟨s, _, rfl, .unchanged _⟩

/-- What an instruction that answers `t` has done: one of its outcomes, with a reply. -/
theorem exec_cases {i : Instr} {s t : State} (h : exec i s = .next t) : ∃ u r, t = u.withReply r ∧ ExecOutcome s i u := by
  obtain ⟨u, r, hu, hout⟩ := exec_outcome i s
  exact ⟨u, r, Host.Outcome.next.inj (h.symm.trans hu), hout⟩

/-- What a commit that answers `t` has done: one of its outcomes, with an accepted write as the reply (R150). -/
theorem exec_rxCommit_outcome (s : State) : ∃ u, exec .rxCommit s = .next (u.withReply .writeOk) ∧ CommitOutcome s u :=
  ⟨_, rfl, commitEffect_outcome s⟩

end Sys2Proof.Machine

/-! SUPPORT. What every step keeps (10_state.md): a step always answers a next state (R330, R337), the build is fixed (R50), and
the invariant of the block holds on from reset. -/

namespace Sys2Proof.Machine

/-! Steps in general. -/

/-- Serving an access always answers a next state (R86, R330). -/
theorem exists_serveAccess (w : Bool) (off : Offset) (n : Nat) (v : Word) (s : State) :
    ∃ t, serveAccess w off n v s = .next t := by
  obtain ⟨-, h⟩ | ⟨-, e, -, h⟩ | ⟨-, i, -, h⟩ := serveAccess_cases w off n v s
  · exact ⟨_, h⟩
  · exact ⟨_, h⟩
  · obtain ⟨u, r, hexec, -⟩ := exec_outcome i s
    exact ⟨_, h.trans hexec⟩

/-- Settles O10: with no host step the block holds, RST resets, and every access is served. -/
theorem stepNeverStops : Obligations.StepNeverStops := by
  intro s
  unfold step
  split
  · exact ⟨_, rfl⟩
  · exact ⟨_, rfl⟩
  · exact exists_serveAccess ..
  · exact exists_serveAccess ..

/-- A property that reset gives, that no instruction loses, and that does not speak of the sticky bits, the reply or the host
steps still to be served, is kept by every step (a bus error replaces sticky bits and the reply). -/
theorem step_keeps {P : State → Prop} (hpending : ∀ s hs, P s → P (s.withPending hs))
    (hreply : ∀ s r, P s → P (s.withReply r)) (hsticky : ∀ s st, P s → P (s.withSticky st))
    (hreset : ∀ s, P s → P (State.resetOf s.build)) (hexec : ∀ i s u, P s → ExecOutcome s i u → P u) {s t : State}
    (hs : P s) (h : step s = .next t) : P t := by
  obtain ⟨-, rfl⟩ | ⟨rest, -, rfl⟩ | ⟨w, off, n, v, rest, -, -, ⟨-, rfl⟩ | ⟨-, i, -, he⟩⟩ := step_cases h
  · exact hs
  · exact hpending _ _ (hreset s hs)
  · exact hreply _ _ (hsticky _ _ (hpending s rest hs))
  · obtain ⟨u, r, rfl, hout⟩ := exec_cases he
    exact hreply _ _ (hexec i _ u (hpending s rest hs) hout)

/-! The build. -/

/-- No instruction changes the build (R50). -/
theorem ExecOutcome.build_eq {i : Instr} {s u : State} (h : ExecOutcome s i u) : u.build = s.build := by
  cases h with
  | committed h => cases h <;> rfl
  | _ => rfl

/-- Settles O13: reset and every instruction keep the build. -/
theorem stepKeepsBuild : Obligations.StepKeepsBuild := by
  intro s t h
  exact step_keeps (P := fun u => u.build = s.build) (fun _ _ hs => hs) (fun _ _ hs => hs) (fun _ _ hs => hs)
    (fun _ hs => hs) (fun _ _ _ hs hout => hout.build_eq.trans hs) rfl h

/-! A step by the host step it serves. -/

/-- An aligned access of 4 bytes is served by the instruction that its access word decodes to (R290). -/
theorem serveAccess_aligned {w : Bool} {off : Offset} {v : Word} {i : Instr} (halign : off.toNat % 4 = 0)
    (h : decode (accessWord w off v) = .ok i) (s : State) : serveAccess w off 4 v s = exec i s := by
  have herr : erredBeforeDecode off 4 = false := by simp [erredBeforeDecode, halign]
  simp only [serveAccess, herr, h, Bool.false_eq_true, if_false]

/-- Settles O5: the step takes the access off the list and serves it. -/
theorem stepRunsDecodedInstruction : Obligations.StepRunsDecodedInstruction := by
  intro s off rest i halign
  constructor
  · intro hp hd
    rw [step_memRead hp, serveAccess_aligned halign hd]
    rfl
  · intro v hp hd
    rw [step_memWrite hp, serveAccess_aligned halign hd]
    rfl

/-- The bits of a table row read the word that was written there (R101). -/
theorem hostStepOfBits_toNat (a : AccessWord) : hostStepOfBits 48 a.toNat = hostStepOf a := by
  rw [hostStepOfBits, Nat.mod_eq_of_lt (by omega), BitVec.ofNat_toNat, BitVec.setWidth_eq]

/-- The aligned offsets are the multiples of 4 (R85, R101). -/
theorem toNat_mod_four_of_aligned : ∀ off : Offset, off &&& 0x03#8 = 0#8 → off.toNat % 4 = 0 := by decide

/-- Settles O6: the placed host step is the access of the word's fields, whose access word is the word again. -/
theorem fetchWordRunsItsInstruction : Obligations.FetchWordRunsItsInstruction := by
  rintro s a i ⟨haligned, hread⟩ hd
  have hmod := toNat_mod_four_of_aligned _ haligned
  rw [← accessWord_fields a] at hd
  rw [State.withFetchWord, hostStepOfBits_toNat, hostStepOf]
  cases hw : fieldW a
  · rw [hw, hread hw] at hd
    exact (step_memRead rfl).trans (serveAccess_aligned hmod hd s)
  · rw [hw] at hd
    exact (step_memWrite rfl).trans (serveAccess_aligned hmod hd s)

/-- Settles O9: by the list of host steps. -/
theorem emptyHostListHoldsAndRstKeepsLaterSteps : Obligations.EmptyHostListHoldsAndRstKeepsLaterSteps := by
  refine ⟨fun s h => ?_, fun s rest h => step_rst h, rfl⟩
  simp only [step, h]

/-- Settles O34: each row's meaning is the bus error, which is the one sticky bit and the error response (R86). -/
theorem unmappedRowsAreBusErrors : Obligations.UnmappedRowsAreBusErrors :=
  fun _ _ _ s _ hi => exec_unmapped s hi

/-- Settles O19: each of the twenty reads answers its word and replaces the reply alone (R87). -/
theorem readsOtherThanTxDataChangeNothing : Obligations.ReadsOtherThanTxDataChangeNothing := by
  intro i s hi
  cases i <;> cases hi <;> exact ⟨_, rfl⟩

/-! The invariant: the matrix and LAST_EVENT. -/

/-- A destination of the build is a wire id and one (R8). -/
theorem numOutputs_le {b : Build} (hb : b.wf) : b.numOutputs ≤ 65536 := by
  obtain ⟨-, ⟨-, h⟩, -⟩ := hb
  exact h

/-- Dumps go to a level of the build (R8). -/
theorem dumpLevel_lt {b : Build} (hb : b.wf) : b.dumpLevel.toNat < b.numLevels := by
  obtain ⟨-, -, -, -, -, h⟩ := hb
  exact h

/-- The matrix is in canonical form and every listed cell is in the ranges of the build (R44, R82). -/
abbrev matrixOk (b : Build) (m : RoutingMatrix) : Prop := RoutingMatrix.wf m ∧ cellsInRange b m

/-- Writing a crosspoint in range keeps the matrix in order (R44, R260). -/
theorem matrixOk_writeCell {b : Build} {m : RoutingMatrix} {c : Level} {d : Nat} {src : PublicId} (hb : b.wf)
    (h : matrixOk b m) (hrange : crosspointInRange b c d src) : matrixOk b (writeCell m (cellNumber c d) src) := by
  obtain ⟨hwf, hcells⟩ := h
  obtain ⟨hlevel, hdest, hdest', hsource⟩ := hrange
  refine ⟨writeCell_wf _ _ hwf, fun e he => ?_⟩
  obtain hold | ⟨rfl, -⟩ := mem_writeCell he
  · exact hcells e hold
  · have hd : d < 131072 := by linarith [numOutputs_le hb]
    rw [cellNumber_div c hd, cellNumber_mod c hd]
    exact ⟨hlevel, hdest, hdest', hsource⟩

/-- The entries of a dump keep the matrix in order (R167). -/
theorem matrixOk_applyEntries {s : State} (es : List (Nat × PublicId)) (hb : s.build.wf)
    (h : matrixOk s.build s.matrix) : matrixOk s.build (applyEntries s es).matrix :=
  applyEntries_matrix s es h fun _ _ _ hm hd hd' hv => matrixOk_writeCell hb hm ⟨dumpLevel_lt hb, hd, hd', hv⟩

/-- A cell of a matrix in order holds a source of the build, or 0 (R40, R44). -/
theorem readCell_toNat_le {b : Build} {m : RoutingMatrix} (h : cellsInRange b m) (k : Nat) :
    (readCell m k).toNat ≤ b.numInputs := by
  induction m with
  | nil => exact Nat.zero_le _
  | cons e m ih =>
    obtain ⟨⟨-, -, -, hsource⟩, htail⟩ := List.forall_mem_cons.mp h
    rw [readCell_cons]
    split
    · exact hsource
    · exact ih htail

/-- The code of a drop reason is one of 1 to 11 (R331). -/
theorem DropReason.code_range (r : DropReason) : 1 ≤ r.code.toNat ∧ r.code.toNat ≤ 11 := by
  cases r <;> decide

/-- LAST_EVENT right after reset is a word that R47 allows. -/
theorem eventOk_zero (b : Build) : eventOk b (packEvent 0#21 0#3 0#4 .none) := by
  simp [eventOk, packEvent_fields, EventKind.code]

/-- The word recorded at a drop is one that R47 allows. -/
theorem eventOk_dropEvent (b : Build) (r : DropReason) : eventOk b (dropEvent r) := by
  simp [eventOk, dropEvent, packEvent_fields, EventKind.code, DropReason.code_range]

/-- The word recorded at a handshake is one that R47 allows. -/
theorem eventOk_handshakeEvent (b : Build) : eventOk b handshakeEvent := by
  simp [eventOk, handshakeEvent, packEvent_fields, EventKind.code]

/-- A public id as the DATA of LAST_EVENT (R47, R165). -/
theorem setWidth_publicId_toNat (d : PublicId) : (d.setWidth 21).toNat = d.toNat := by
  rw [BitVec.toNat_setWidth]
  omega

/-- The word recorded for a crosspoint in range is one that R47 allows. -/
theorem eventOk_xpEvent {b : Build} {c : Level} {d src : PublicId} (h : crosspointInRange b c d.toNat src) :
    eventOk b (xpEvent c d) := by
  obtain ⟨hc, hd, hd', -⟩ := h
  simp only [eventOk, xpEvent, packEvent_fields, EventKind.code, setWidth_publicId_toNat]
  simp [hc, hd, hd']

/-- The word recorded for a dump at a level of the build is one that R47 allows. -/
theorem eventOk_readyEvent {b : Build} {c : Level} (n : Nat) (h : c.toNat < b.numLevels) : eventOk b (readyEvent c n) := by
  simp [eventOk, readyEvent, packEvent_fields, EventKind.code, h]

/-! The invariant: reset, commits, instructions, steps. -/

/-- The invariant holds right after reset (R372). -/
theorem inv_resetOf {b : Build} (hb : b.wf) : Inv (State.resetOf b) where
  build_wf := hb
  ctrl_reserved := BitVec.zero_and
  rx_fits := Nat.zero_le _
  tx_fits := Nat.zero_le _
  matrix_wf := RoutingMatrix.wf_nil
  cells_in_range := List.forall_mem_nil _
  result_range := Nat.zero_le _
  event_ok := eventOk_zero b

/-- Settles O12: the default build is in range. -/
theorem resetSatisfiesInvariant : Obligations.ResetSatisfiesInvariant :=
  ⟨fun _ => inv_resetOf, inv_resetOf (by decide)⟩

/-- Every outcome of a commit keeps the invariant (R151, R168). -/
theorem CommitOutcome.inv {s u : State} (h : CommitOutcome s u) (hs : Inv s) : Inv u := by
  cases h with
  | drop r => exact { hs with rx_fits := Nat.zero_le _, event_ok := eventOk_dropEvent s.build r }
  | handshake hovf hbanner hroom =>
    exact { hs with
      rx_fits := Nat.zero_le _
      tx_fits := by simp; omega
      event_ok := eventOk_handshakeEvent s.build }
  | xp c d src hrange =>
    obtain ⟨hwf, hcells⟩ := matrixOk_writeCell hs.build_wf ⟨hs.matrix_wf, hs.cells_in_range⟩ hrange
    exact { hs with
      rx_fits := Nat.zero_le _
      matrix_wf := hwf
      cells_in_range := hcells
      event_ok := eventOk_xpEvent hrange }
  | dump m st hentries hsticky =>
    have hmatrix := matrixOk_applyEntries (s := emptyRx s) (dumpEntries s.build.dumpDecoder s.rx) hs.build_wf
      ⟨hs.matrix_wf, hs.cells_in_range⟩
    rw [hentries] at hmatrix
    obtain ⟨hwf, hcells⟩ := hmatrix
    exact { hs with
      rx_fits := Nat.zero_le _
      matrix_wf := hwf
      cells_in_range := hcells
      event_ok := eventOk_readyEvent _ (dumpLevel_lt hs.build_wf) }

/-- Every outcome of an instruction keeps the invariant. -/
theorem ExecOutcome.inv {i : Instr} {s u : State} (h : ExecOutcome s i u) (hs : Inv s) : Inv u := by
  cases h with
  | committed h => exact h.inv hs
  | sent hroom => exact { hs with tx_fits := by simp; omega }
  | sentAndSet hroom hopt hrange =>
    obtain ⟨hwf, hcells⟩ := matrixOk_writeCell hs.build_wf ⟨hs.matrix_wf, hs.cells_in_range⟩ hrange
    exact { hs with tx_fits := by simp; omega, matrix_wf := hwf, cells_in_range := hcells }
  | cellSet hrange =>
    obtain ⟨hwf, hcells⟩ := matrixOk_writeCell hs.build_wf ⟨hs.matrix_wf, hs.cells_in_range⟩ hrange
    exact { hs with matrix_wf := hwf, cells_in_range := hcells }
  | matrixCleared => exact { hs with matrix_wf := RoutingMatrix.wf_nil, cells_in_range := List.forall_mem_nil _ }
  | gotCell => exact { hs with result_range := readCell_toNat_le hs.cells_in_range _ }
  | gotNothing => exact { hs with result_range := Nat.zero_le _ }
  | rxCleared | linkDown => exact { hs with rx_fits := Nat.zero_le _ }
  | txCleared => exact { hs with tx_fits := Nat.zero_le _ }
  | popped => exact { hs with tx_fits := (by simp [Nat.le_succ_of_le hs.tx_fits] : s.tx.tail.length ≤ s.build.txMax) }
  | pushed v hroom => exact { hs with rx_fits := by simpa using hroom }
  | ctrlWritten v => exact { hs with ctrl_reserved := by simp [ctrlOf, BitVec.and_assoc] }
  | _ => exact { hs with }

/-- Settles O11: every part of a step keeps the invariant. -/
theorem stepKeepsInvariant : Obligations.StepKeepsInvariant := fun _ _ =>
  step_keeps (P := Inv) (fun _ _ hs => { hs with }) (fun _ _ hs => { hs with }) (fun _ _ hs => { hs with })
    (fun _ hs => inv_resetOf hs.build_wf) (fun _ _ _ hs hout => hout.inv hs)

end Sys2Proof.Machine

/-! SUPPORT. Who writes what (10_state.md sections 2 to 5): of each outcome of an instruction, the pieces of state it leaves. -/

namespace Sys2Proof.Machine

/-! The fields of the words that a commit records (R47). -/

@[simp] theorem dropEvent_kind (r : DropReason) : eventKindField (dropEvent r) = 4#4 := by
  simp [dropEvent, packEvent_fields, EventKind.code]

@[simp] theorem dropEvent_reason (r : DropReason) : eventReasonField (dropEvent r) = r.code := by
  simp [dropEvent, packEvent_fields]

@[simp] theorem dropEvent_level (r : DropReason) : eventLevelField (dropEvent r) = 0#3 := by
  simp [dropEvent, packEvent_fields]

@[simp] theorem dropEvent_data (r : DropReason) : eventDataField (dropEvent r) = 0#21 := by
  simp [dropEvent, packEvent_fields]

@[simp] theorem handshakeEvent_kind : eventKindField handshakeEvent = 1#4 := by
  simp [handshakeEvent, packEvent_fields, EventKind.code]

@[simp] theorem xpEvent_kind (c : Level) (d : PublicId) : eventKindField (xpEvent c d) = 2#4 := by
  simp [xpEvent, packEvent_fields, EventKind.code]

@[simp] theorem xpEvent_level (c : Level) (d : PublicId) : eventLevelField (xpEvent c d) = c := by
  simp [xpEvent, packEvent_fields]

@[simp] theorem xpEvent_data (c : Level) (d : PublicId) : (eventDataField (xpEvent c d)).toNat = d.toNat := by
  simp only [xpEvent, packEvent_fields, setWidth_publicId_toNat]

@[simp] theorem readyEvent_kind (c : Level) (n : Nat) : eventKindField (readyEvent c n) = 3#4 := by
  simp [readyEvent, packEvent_fields, EventKind.code]

/-! The writers. -/

/-- Settles O14: of the outcomes of an instruction, only those of the listed writers replace the matrix, and of the outcomes
of a commit only the applied frames, which record their kind. -/
theorem onlyListedWritersChangeMatrix : Obligations.OnlyListedWritersChangeMatrix := by
  intro i s t h hne
  obtain ⟨u, r, rfl, hout⟩ := exec_cases h
  cases hout with
  | committed h =>
    refine .inl ⟨rfl, ?_⟩
    cases h with
    | xp c d src hrange => exact .inl (xpEvent_kind c d)
    | dump m st hentries hsticky => exact .inr (readyEvent_kind _ _)
    | drop | handshake => exact absurd rfl hne
  | sentAndSet hroom hopt hrange => exact .inr (.inl ⟨rfl, hopt⟩)
  | cellSet hrange => exact .inr (.inr (.inl rfl))
  | matrixCleared => exact .inr (.inr (.inr rfl))
  | _ => exact absurd rfl hne

/-- Settles O15: each outcome replaces the registers of its own writer alone, and an outcome of a commit LAST_EVENT and RX. -/
theorem registersHaveOnlyTheirWriters : Obligations.RegistersHaveOnlyTheirWriters := by
  intro i s t h
  obtain ⟨u, r, rfl, hout⟩ := exec_cases h
  cases hout with
  | committed h => cases h <;> simp
  | crcWritten i hi k => simpa using fun _ => hi
  | _ => simp

/-- An instruction that clears a sticky bit is the write of STATUS with a 1 in its place (R36, R294). -/
theorem ExecOutcome.sticky_cases {i : Instr} {s u : State} (h : ExecOutcome s i u) {bit : StickyBit}
    (hset : s.sticky.get bit = true) :
    u.sticky.get bit = true ∨ ∃ v, i = .wrStatus v ∧ v.getLsbD bit.index = true := by
  cases h with
  | committed h =>
    left
    cases h with
    | drop r => exact dropSticky_get s.sticky r hset
    | handshake | xp => simp [Sticky.get_set, hset]
    | dump m st hentries hsticky => obtain rfl | rfl := hsticky <;> simp [Sticky.get_set, hset]
  | flagged | gotNothing => simp [Sticky.get_set, hset]
  | statusCleared v =>
    cases hv : v.getLsbD bit.index
    · exact .inl (by simp [Sticky.get_w1c, hset, hv])
    · exact .inr ⟨v, rfl, hv⟩
  | _ => exact .inl hset

/-- Settles O16: an outcome keeps a sticky bit that is 1, or is that of the write that clears it. -/
theorem stickyBitsFallOnlyByWriteOneToClear : Obligations.StickyBitsFallOnlyByWriteOneToClear := by
  intro i s t bit h hset hclear
  obtain ⟨u, r, rfl, hout⟩ := exec_cases h
  obtain hkept | hw := hout.sticky_cases hset
  · exact absurd (hkept.symm.trans hclear) (by decide)
  · exact hw

/-- Settles O17: of the outcomes only the handshake sets HS_DONE, and only LINK_DOWN clears it. -/
theorem handshakeFlagRisesAndFallsOnlyByRule : Obligations.HandshakeFlagRisesAndFallsOnlyByRule := by
  intro i s t h
  obtain ⟨u, r, rfl, hout⟩ := exec_cases h
  cases hout with
  | committed h =>
    cases h with
    | handshake hovf hbanner hroom => exact ⟨fun _ _ => ⟨rfl, hovf, hbanner⟩, fun _ hlow => absurd hlow nofun⟩
    | _ => exact ⟨fun hlow hhigh => absurd (hlow.symm.trans hhigh) nofun,
        fun hhigh hlow => absurd (hhigh.symm.trans hlow) nofun⟩
  | linkDown => exact ⟨fun _ hhigh => absurd hhigh nofun, fun _ _ => rfl⟩
  | _ => exact ⟨fun hlow hhigh => absurd (hlow.symm.trans hhigh) nofun,
    fun hhigh hlow => absurd (hhigh.symm.trans hlow) nofun⟩

/-- Settles O18: of the outcomes only a pop, a clear, a handshake and a sent frame replace TX, and the last two found room. -/
theorem txTakesWholeFramesOrNothing : Obligations.TxTakesWholeFramesOrNothing := by
  intro i s t h hne
  obtain ⟨u, r, rfl, hout⟩ := exec_cases h
  cases hout with
  | popped => exact .inl ⟨rfl, rfl⟩
  | txCleared => exact .inr (.inl ⟨rfl, rfl⟩)
  | committed h =>
    cases h with
    | handshake hovf hbanner hroom => exact .inr (.inr (.inl ⟨rfl, rfl, by simp; omega⟩))
    | _ => exact absurd rfl hne
  | sent hroom => exact .inr (.inr (.inr ⟨rfl, rfl, by simp; omega⟩))
  | sentAndSet hroom hopt hrange => exact .inr (.inr (.inr ⟨rfl, rfl, by simp; omega⟩))
  | _ => exact absurd rfl hne

end Sys2Proof.Machine

/-! SUPPORT. The matrix as the cells it reads (43_matrix.md, 10_state.md R44): the canonical form has one datum for each content,
and a cell keeps its source through everything that does not write it (R264). -/

namespace Sys2Proof.Machine

/-! The canonical form. -/

/-- The first listed cell reads its own source. -/
theorem readCell_head (e : Nat × PublicId) (m : RoutingMatrix) : readCell (e :: m) e.1 = e.2 := if_pos rfl

/-- No cell below the first listed one is present. -/
theorem head_le_of_readCell_ne_zero {e : Nat × PublicId} {m : RoutingMatrix} {k : Nat} (h : RoutingMatrix.wf (e :: m))
    (hk : readCell (e :: m) k ≠ 0#17) : e.1 ≤ k := by
  obtain ⟨hlt, -, -⟩ := (RoutingMatrix.wf_cons_iff e m).mp h
  by_contra hlow
  have hbelow : ∀ x ∈ e :: m, k < x.1 :=
    List.forall_mem_cons.mpr ⟨by omega, fun x hx => (by omega : k < e.1).trans (hlt x hx)⟩
  exact hk (readCell_of_lt hbelow)

/-- What the tail of a canonical matrix reads: the same, but nothing at the first listed cell. -/
theorem readCell_tail {e : Nat × PublicId} {m : RoutingMatrix} (h : RoutingMatrix.wf (e :: m)) (k : Nat) :
    readCell m k = if k = e.1 then 0#17 else readCell (e :: m) k := by
  obtain ⟨hlt, -, -⟩ := (RoutingMatrix.wf_cons_iff e m).mp h
  split
  · rename_i hk
    exact readCell_of_lt (hk ▸ hlt)
  · rename_i hk
    exact (if_neg (Ne.symm hk)).symm

/-- Settles O39, by induction on the lists: the heads are the least cells present, so they are the same entry, and the tails
read alike. -/
theorem canonicalMatricesReadingAlikeAreEqual : Obligations.CanonicalMatricesReadingAlikeAreEqual := by
  intro m
  induction m with
  | nil =>
    rintro (_ | ⟨e', m'⟩) - h' hread
    · rfl
    · obtain ⟨-, hne, -⟩ := (RoutingMatrix.wf_cons_iff e' m').mp h'
      exact absurd ((readCell_head e' m').symm.trans (hread e'.1).symm) hne
  | cons e m ih =>
    obtain ⟨k, v⟩ := e
    rintro (_ | ⟨⟨k', v'⟩, m'⟩) h h' hread <;> obtain ⟨-, hv, hm⟩ := (RoutingMatrix.wf_cons_iff _ m).mp h
    · exact absurd ((readCell_head (k, v) m).symm.trans (hread k)) hv
    · obtain ⟨-, hv', hm'⟩ := (RoutingMatrix.wf_cons_iff _ m').mp h'
      have hhead := readCell_head (k, v) m
      have hhead' := readCell_head (k', v') m'
      have hle : k' ≤ k := head_le_of_readCell_ne_zero h' (by rw [← hread k, hhead]; exact hv)
      have hle' : k ≤ k' := head_le_of_readCell_ne_zero h (by rw [hread k', hhead']; exact hv')
      obtain rfl : k = k' := Nat.le_antisymm hle' hle
      obtain rfl : v = v' := hhead.symm.trans ((hread k).trans hhead')
      rw [ih m' hm hm' fun j => by rw [readCell_tail h, readCell_tail h', hread j]]

/-! Cells through the entries of a dump. -/

/-- The entry of a dump is written: its destination and its source are in the ranges of the build (R167). -/
abbrev entryInRange (b : Build) (e : Nat × PublicId) : Prop := 1 ≤ e.1 ∧ e.1 ≤ b.numOutputs ∧ e.2.toNat ≤ b.numInputs

/-- An entry keeps the build. -/
theorem applyEntry_build (s : State) (e : Nat × PublicId) : (applyEntry s e).build = s.build := by
  obtain ⟨-, -, -, h⟩ | ⟨-, h⟩ := applyEntry_cases s e <;> rw [h] <;> rfl

/-- The entries of a dump keep the build. -/
theorem applyEntries_build (s : State) (es : List (Nat × PublicId)) : (applyEntries s es).build = s.build := by
  obtain ⟨m, st, h, -⟩ := applyEntries_eq s es
  rw [h]
  rfl

/-- An entry keeps the canonical form. -/
theorem applyEntry_wf {s : State} (hwf : RoutingMatrix.wf s.matrix) (e : Nat × PublicId) :
    RoutingMatrix.wf (applyEntry s e).matrix := by
  obtain ⟨-, -, -, h⟩ | ⟨-, h⟩ := applyEntry_cases s e <;> rw [h]
  · exact writeCell_wf _ _ hwf
  · exact hwf

/-- The entries of a dump keep the canonical form. -/
theorem applyEntries_wf {s : State} (hwf : RoutingMatrix.wf s.matrix) (es : List (Nat × PublicId)) :
    RoutingMatrix.wf (applyEntries s es).matrix :=
  applyEntries_matrix s es hwf fun _ _ _ hm _ _ _ => writeCell_wf _ _ hm

/-- The cells after one entry: its own cell at DUMP_LEVEL, when the entry is in range, and no other (R167). -/
theorem applyEntry_cell {s : State} (hb : s.build.wf) (hwf : RoutingMatrix.wf s.matrix) (e : Nat × PublicId) (c : Level)
    {d : Nat} (hd : d < 131072) :
    (applyEntry s e).cell c d =
      if c = s.build.dumpLevel ∧ d = e.1 ∧ entryInRange s.build e then e.2 else s.cell c d := by
  have houtputs := numOutputs_le hb
  obtain ⟨h1, h2, h3, h⟩ | ⟨hout, h⟩ := applyEntry_cases s e <;> rw [h]
  · have hcell := setCell_cell hwf s.build.dumpLevel c e.1 d e.2 (by omega) hd
    simp only [entryInRange, h1, h2, h3, and_true]
    exact hcell
  · rw [if_neg fun ⟨_, _, hin⟩ => hout hin]
    rfl

/-- A cell that no entry is for keeps its source (R167). -/
theorem applyEntries_cell_eq {s : State} {es : List (Nat × PublicId)} (hb : s.build.wf) (hwf : RoutingMatrix.wf s.matrix)
    {c : Level} {d : Nat} (hd : d < 131072) (hne : ∀ e ∈ es, ¬(c = s.build.dumpLevel ∧ d = e.1)) :
    (applyEntries s es).cell c d = s.cell c d := by
  induction es generalizing s with
  | nil => rfl
  | cons e es ih =>
    obtain ⟨hhead, htail⟩ := List.forall_mem_cons.mp hne
    have hbuild := applyEntry_build s e
    calc (applyEntries s (e :: es)).cell c d
      _ = (applyEntry s e).cell c d := ih (hbuild ▸ hb) (applyEntry_wf hwf e) (hbuild ▸ htail)
      _ = s.cell c d := by rw [applyEntry_cell hb hwf e c hd, if_neg fun ⟨hc, hd, _⟩ => hhead ⟨hc, hd⟩]

/-! Cells through instructions. -/

/-- The writes that R264 rules out are the same whatever the bus answered. -/
theorem writesCell_withReply (c : Level) (d : Nat) (s u : State) (r : Reply) (i : Instr) :
    writesCell c d s (u.withReply r) i ↔ writesCell c d s u i := by
  cases i <;> rfl

/-- An instruction that does not write the cell keeps its source, and the canonical form (R264). -/
theorem ExecOutcome.cell_eq {i : Instr} {s u : State} (h : ExecOutcome s i u) (hb : s.build.wf)
    (hwf : RoutingMatrix.wf s.matrix) {c : Level} {d : Nat} (hd : d < 131072) (hkept : ¬writesCell c d s u i) :
    RoutingMatrix.wf u.matrix ∧ u.cell c d = s.cell c d := by
  cases h with
  | committed h =>
    cases h with
    | drop | handshake => exact ⟨hwf, rfl⟩
    | xp c' d' src hrange =>
      have hne : ¬(c = c' ∧ d = d'.toNat) := fun ⟨hc, hd⟩ =>
        hkept (.inl ⟨xpEvent_kind c' d', (xpEvent_level c' d').trans hc.symm, (xpEvent_data c' d').trans hd.symm⟩)
      have hcell := setCell_cell hwf c' c d'.toNat d src d'.isLt hd
      rw [if_neg hne] at hcell
      exact ⟨writeCell_wf _ _ hwf, hcell⟩
    | dump m st hentries hsticky =>
      have hne : ∀ e ∈ dumpEntries s.build.dumpDecoder s.rx, ¬(c = s.build.dumpLevel ∧ d = e.1) := by
        rintro e he ⟨hc, hd⟩
        obtain ⟨k, hk, rfl⟩ := List.mem_map.mp he
        exact hkept (.inr ⟨readyEvent_kind _ _, hc.symm, k, List.mem_range.mp hk, hd.symm⟩)
      have hcell := applyEntries_cell_eq (s := emptyRx s) hb hwf hd hne
      have hcanonical := applyEntries_wf (s := emptyRx s) hwf (dumpEntries s.build.dumpDecoder s.rx)
      rw [hentries] at hcell hcanonical
      exact ⟨hcanonical, hcell⟩
  | sentAndSet hroom hopt hrange =>
    have hne : ¬(c = s.argLevel ∧ d = s.argDest.toNat) := fun ⟨hc, hd⟩ => hkept ⟨hopt, hc.symm, hd.symm⟩
    have hcell := setCell_cell hwf s.argLevel c s.argDest.toNat d s.argSrc s.argDest.isLt hd
    rw [if_neg hne] at hcell
    exact ⟨writeCell_wf _ _ hwf, hcell⟩
  | cellSet | matrixCleared => exact absurd trivial hkept
  | _ => exact ⟨hwf, rfl⟩

/-- A list of instructions goes on from the state its first one leaves (R90). -/
theorem execList_cons {i : Instr} {s t : State} (h : exec i s = .next t) (is : List Instr) :
    execList (i :: is) s = execList is t := by
  simp only [execList, h]

/-- A list of instructions that do not write the cell keeps its source, and the build (R264). -/
theorem execList_cell_eq (is : List Instr) {s : State} (hb : s.build.wf) (hwf : RoutingMatrix.wf s.matrix) {c : Level}
    {d : Nat} (hd : d < 131072) (hkept : cellUnwritten c d is s) :
    ∃ u, execList is s = .next u ∧ u.build = s.build ∧ u.cell c d = s.cell c d := by
  induction is generalizing s with
  | nil => exact ⟨s, rfl, rfl, rfl⟩
  | cons i is ih =>
    obtain ⟨v, r, hexec, hout⟩ := exec_outcome i s
    obtain ⟨hi, his⟩ := hkept _ hexec
    have hbuild := hout.build_eq
    obtain ⟨hwf', hcell⟩ := hout.cell_eq hb hwf hd (mt (writesCell_withReply ..).mpr hi)
    obtain ⟨u, hu, hbuild', hcell'⟩ := ih (s := v.withReply r) (hbuild ▸ hb) hwf' his
    exact ⟨u, (execList_cons hexec is).trans hu, hbuild'.trans hbuild, hcell'.trans hcell⟩

/-- Settles O38: MX_SET leaves the source in the cell and the matrix canonical, the list keeps the cell and the build, and
MX_GET of the same index reads the cell. -/
theorem setThenGetReturnsTheSource : Obligations.SetThenGetReturnsTheSource := by
  intro s is hb hwf hlevel hdest hdest' hsource hkept
  have hindex := (indexInRange_iff ..).mpr ⟨hlevel, hdest, hdest'⟩
  have heffect := mxSetEffect_inRange (Bool.and_eq_true_iff.mpr ⟨hindex, (sourceInRange_iff ..).mpr hsource⟩)
  have hset : exec .mxSet s = .next ((setCell s s.argLevel s.argDest.toNat s.argSrc).withReply .writeOk) := by
    rw [exec_mxSet, heffect]
    rfl
  have hwf' := writeCell_wf (cellNumber s.argLevel s.argDest.toNat) s.argSrc hwf
  obtain ⟨u, hu, hbuild, hcell⟩ := execList_cell_eq is
    (s := (setCell s s.argLevel s.argDest.toNat s.argSrc).withReply .writeOk) hb hwf' s.argDest.isLt (hkept _ hset)
  refine ⟨u, (execList_cons hset is).trans hu, fun hargLevel hargDest => ?_⟩
  obtain ⟨hget, -⟩ := mxGetReadsCellOrReportsBounds u
  rw [hargLevel, hargDest, hbuild] at hget
  refine ⟨_, hget ⟨hlevel, hdest, hdest'⟩, hcell.trans ?_⟩
  exact (setCell_cell hwf s.argLevel s.argLevel s.argDest.toNat s.argDest.toNat s.argSrc s.argDest.isLt
    s.argDest.isLt).trans (if_pos ⟨rfl, rfl⟩)

end Sys2Proof.Machine

/-! SUPPORT. SET_XP (41_frame_encode.md R201, R204) as one step and as a run of steps, and the CRC engine as a run of writes
(42_crc.md R231 to R236). -/

namespace Sys2Proof.Machine

/-! SET_XP. -/

/-- SET_XP acts on TX and the matrix and answers an accepted write (R201). -/
theorem exec_setXp (s : State) : exec .setXp s = .next ((setXpEffect s).withReply .writeOk) := rfl

/-- The operands of SET_XP are good when each is in its range as a number (R201). -/
theorem setXpOperandsOk_iff_toNat (b : Build) (c : Level) (d x : PublicId) :
    setXpOperandsOk b c d x = true ↔
      c.toNat < b.numLevels ∧ 1 ≤ d.toNat ∧ d.toNat ≤ b.numOutputs ∧ 1 ≤ x.toNat ∧ x.toNat ≤ b.numInputs := by
  have hne : x ≠ 0#17 ↔ 1 ≤ x.toNat := by rw [ne_eq, ← BitVec.toNat_inj, BitVec.toNat_ofNat]; omega
  rw [setXpOperandsOk_iff, hne]

section SetXp

variable {s : State}

/-- An operand out of range is reported before the room in TX is looked at (R201, R334). -/
theorem setXpEffect_badOperands (h : setXpOperandsOk s.build s.argLevel s.argDest s.argSrc = false) :
    setXpEffect s = setSticky s .errCmd := by
  rw [setXpEffect, h]
  rfl

variable (hops : setXpOperandsOk s.build s.argLevel s.argDest s.argSrc = true)
include hops

/-- Good operands without room for the frame (R201). -/
theorem setXpEffect_noRoom (h : s.build.txMax < s.tx.length + 24) : setXpEffect s = setSticky s .errTxOvf := by
  have hroom : txHasRoom s 24 = false := by rw [← Bool.not_eq_true, txHasRoom_iff]; omega
  rw [setXpEffect, hops, hroom]
  rfl

/-- Good operands with room: the frame appended, then the optimistic write (R201, R204). -/
theorem setXpEffect_sends (h : s.tx.length + 24 ≤ s.build.txMax) :
    setXpEffect s =
      optimisticWrite (appendTx s (encodeSet s.build s.argLevel s.argDest s.argSrc s.tbusAddr)) := by
  have hroom : txHasRoom s 24 = true := by rw [txHasRoom_iff]; omega
  rw [setXpEffect, hops, hroom]
  rfl

end SetXp

/-- The optimistic write replaces the matrix alone (R204). -/
theorem optimisticWrite_eq (s : State) : ∃ m, optimisticWrite s = s.withMatrix m := by
  unfold optimisticWrite
  split
  · exact ⟨_, rfl⟩
  · exact ⟨s.matrix, rfl⟩

/-- The cells after the optimistic write: the cell of the operands under OPT_WR, and no other (R204). -/
theorem optimisticWrite_cell {s : State} (hwf : RoutingMatrix.wf s.matrix) (c : Level) {d : Nat} (hd : d < 131072) :
    (optimisticWrite s).cell c d =
      if s.ctrl.getLsbD 2 = true ∧ c = s.argLevel ∧ d = s.argDest.toNat then s.argSrc else s.cell c d := by
  unfold optimisticWrite
  by_cases hopt : optWr s.ctrl = true
  · rw [if_pos hopt, setCell_cell hwf s.argLevel c s.argDest.toNat d s.argSrc s.argDest.isLt hd]
    exact if_congr (and_iff_right hopt).symm rfl rfl
  · rw [if_neg hopt, if_neg fun ⟨h, _⟩ => hopt h]

/-- Settles O41: the frame is appended and the optimistic write is on the cell of the operands alone. -/
theorem setXpAppendsOneFrame : Obligations.SetXpAppendsOneFrame := by
  intro s hwf hlevel hdest hdest' hsrc hsrc' hroom
  have hops := (setXpOperandsOk_iff_toNat ..).mpr ⟨hlevel, hdest, hdest', hsrc, hsrc'⟩
  have hcell := fun c d hd => optimisticWrite_cell (d := d)
    (s := appendTx s (encodeSet s.build s.argLevel s.argDest s.argSrc s.tbusAddr)) hwf c hd
  rw [exec_setXp, setXpEffect_sends hops hroom]
  refine ⟨_, rfl, ?_, hcell⟩
  obtain ⟨m, hm⟩ := optimisticWrite_eq (appendTx s (encodeSet s.build s.argLevel s.argDest s.argSrc s.tbusAddr))
  rw [hm]
  rfl

/-- Settles O42: the operands are checked first, then the room. -/
theorem setXpRejectionSetsOneErrorBit : Obligations.SetXpRejectionSetsOneErrorBit := by
  intro s
  rw [exec_setXp]
  constructor
  · intro hbad
    have hops : setXpOperandsOk s.build s.argLevel s.argDest s.argSrc = false := by
      rw [← Bool.not_eq_true, setXpOperandsOk_iff_toNat]
      omega
    rw [setXpEffect_badOperands hops]
    rfl
  · rintro ⟨hlevel, hdest, hdest', hsrc, hsrc', hfull⟩
    rw [setXpEffect_noRoom ((setXpOperandsOk_iff_toNat ..).mpr ⟨hlevel, hdest, hdest', hsrc, hsrc'⟩) hfull]
    rfl

/-- A SET_XP that is accepted appends 24 bytes to TX and leaves its operands, the build and the sticky bits as they were, so the
next one is judged by the room alone (R201). -/
theorem exec_setXp_sends {s : State} (hops : setXpOperandsOk s.build s.argLevel s.argDest s.argSrc = true)
    (h : s.tx.length + 24 ≤ s.build.txMax) :
    ∃ t, exec .setXp s = .next t ∧ t.tx.length = s.tx.length + 24 ∧ t.build = s.build ∧ t.sticky = s.sticky ∧
      setXpOperandsOk t.build t.argLevel t.argDest t.argSrc = true := by
  obtain ⟨m, hm⟩ := optimisticWrite_eq (appendTx s (encodeSet s.build s.argLevel s.argDest s.argSrc s.tbusAddr))
  rw [exec_setXp, setXpEffect_sends hops h, hm]
  exact ⟨_, rfl, by simp, rfl, rfl, hops⟩

/-- Settles O43: 24 and 48 bytes fit into 64, and 72 do not. -/
theorem thirdSetXpDoesNotFitTheDefaultTx : Obligations.ThirdSetXpDoesNotFitTheDefaultTx := by
  intro s hmax htx hlevel hdest hdest' hsrc hsrc'
  have hops := (setXpOperandsOk_iff_toNat ..).mpr ⟨hlevel, hdest, hdest', hsrc, hsrc'⟩
  have hempty : s.tx.length = 0 := by rw [htx, List.length_nil]
  obtain ⟨t₁, hfirst, hlen₁, hbuild₁, hsticky₁, hops₁⟩ := exec_setXp_sends hops (by omega)
  obtain ⟨t₂, hsecond, hlen₂, hbuild₂, hsticky₂, hops₂⟩ := exec_setXp_sends hops₁ (by rw [hbuild₁]; omega)
  have hlength : t₂.tx.length = 48 := by omega
  have hthird : exec .setXp t₂ = .next ((setSticky t₂ .errTxOvf).withReply .writeOk) := by
    rw [exec_setXp, setXpEffect_noRoom hops₂ (by rw [hbuild₂, hbuild₁]; omega)]
  refine ⟨⟨t₂, ?_, hlength, hsticky₂.trans hsticky₁⟩, ⟨(setSticky t₂ .errTxOvf).withReply .writeOk, ?_, hlength, rfl⟩⟩
  · rw [execList_cons hfirst, execList_cons hsecond, execList]
  · rw [execList_cons hfirst, execList_cons hsecond, execList_cons hthird, execList]

/-! The CRC engine. -/

/-- One write of CRC_DATA steps CRC by the low byte of the value (R234). -/
theorem exec_wrCrcData (s : State) (v : Word) :
    exec (.wrCrcData v) s = .next ((s.withCrc (crcStep s.crc (v.extractLsb' 0 8))).withReply .writeOk) := by
  rw [← byteOf_eq]
  rfl

/-- A list of writes of CRC_DATA runs CRC over their low bytes (R231, R234). -/
theorem execList_wrCrcData (s : State) (k : Half) (vs : List Word) :
    execList (vs.map .wrCrcData) ((s.withCrc k).withReply .writeOk) =
      .next ((s.withCrc (crcRun k (vs.map fun v => v.extractLsb' 0 8))).withReply .writeOk) := by
  induction vs generalizing k with
  | nil => rfl
  | cons v vs ih => exact (execList_cons (exec_wrCrcData _ v) _).trans (ih _)

/-- Settles O45: CRC_INIT sets the start value, the writes run crc16 from it, and the read of CRC_SWAP answers the bytes
exchanged. -/
theorem crcEngineComputesCrc16 : Obligations.CrcEngineComputesCrc16 := by
  intro s vs
  obtain ⟨hinit, -⟩ := crcEngineWrites s 0#32
  refine ⟨_, (execList_cons hinit _).trans (execList_wrCrcData s 0xFFFF#16 vs), rfl, ?_⟩
  obtain ⟨-, hswap, -⟩ := crcAndCountReads
    ((s.withCrc (crcRun 0xFFFF#16 (vs.map fun v => v.extractLsb' 0 8))).withReply .writeOk)
  exact hswap

end Sys2Proof.Machine

/-! SUPPORT. The effects of a commit (40_frame_decode.md): the one outcome it records (R168, R169), XP frames (R163 to R165), dump
frames (R166, R167), and the bytes that the decoder does not interpret (R171). -/

namespace Sys2Proof.Machine

/-! The outcome of a commit. -/

/-- Every commit empties RX, clears RX_OVF and leaves the registers but LAST_EVENT (R168). -/
theorem CommitOutcome.frame {s u : State} (h : CommitOutcome s u) :
    u.rx = [] ∧ u.rxOvf = false ∧ u.result = s.result ∧ u.crc = s.crc ∧ u.ctrl = s.ctrl ∧ u.tbusAddr = s.tbusAddr ∧
      u.argLevel = s.argLevel ∧ u.argDest = s.argDest ∧ u.argSrc = s.argSrc := by
  cases h <;> simp

/-- Settles O54: each outcome records its kind and sets the sticky bits of that kind. -/
theorem commitHasExactlyOneOutcome : Obligations.CommitHasExactlyOneOutcome := by
  intro s
  obtain ⟨u, hexec, hout⟩ := exec_rxCommit_outcome s
  obtain ⟨hrx, hovf, hresult, hcrc, hctrl, htbus, hlevel, hdest, hsrc⟩ := hout.frame
  refine ⟨_, hexec, hrx, hovf, hresult, hcrc, hctrl, htbus, hlevel, hdest, hsrc, ?_⟩
  cases hout with
  | handshake => exact .inl ⟨handshakeEvent_kind, rfl⟩
  | xp c d => exact .inr (.inl ⟨xpEvent_kind c d, rfl⟩)
  | dump m st hentries hsticky =>
    refine .inr (.inr (.inl ⟨readyEvent_kind _ _, ?_⟩))
    obtain rfl | rfl := hsticky <;> rfl
  | drop r => exact .inr (.inr (.inr ⟨dropEvent_kind r, rfl⟩))

/-- Different drop reasons have different codes (R331). -/
theorem DropReason.code_inj {r r' : DropReason} : r.code = r'.code ↔ r = r' := by
  cases r <;> cases r' <;> decide

/-- The sticky bits of a drop by the code that it records (R165, R169, R331). -/
theorem dropSticky_eq_of_code (st : Sticky) (r : DropReason) :
    dropSticky st r =
      { st with
        errDrop := true
        errBounds := st.errBounds || decide (r.code = 10#4)
        errTxOvf := st.errTxOvf || decide (r.code = 11#4) } := by
  have hbounds : r.code = 10#4 ↔ r = .bounds := DropReason.code_inj (r' := .bounds)
  have hfull : r.code = 11#4 ↔ r = .txFull := DropReason.code_inj (r' := .txFull)
  simp only [dropSticky, hbounds, hfull]

/-- Settles O55: only the outcome of a drop records KIND DROP, and its other fields, its sticky bits and its frame are known. -/
theorem dropsHaveNoPartialEffect : Obligations.DropsHaveNoPartialEffect := by
  intro s
  obtain ⟨u, hexec, hout⟩ := exec_rxCommit_outcome s
  refine ⟨_, hexec, fun hkind => ?_⟩
  cases hout with
  | drop r =>
    obtain ⟨hmin, hmax⟩ := r.code_range
    simp only [withReply_lastEvent, withLastEvent_lastEvent, dropEvent_reason]
    rw [dropSticky_eq_of_code]
    exact ⟨hmin, hmax, dropEvent_level r, dropEvent_data r, rfl⟩
  | handshake => exact absurd (handshakeEvent_kind.symm.trans hkind) (by decide)
  | xp c d => exact absurd ((xpEvent_kind c d).symm.trans hkind) (by decide)
  | dump m st => exact absurd ((readyEvent_kind _ _).symm.trans hkind) (by decide)

/-! XP frames. -/

/-- The mask of a level as a number (R43, R164). -/
theorem levelMask_toNat : ∀ c : Level, (1#16 <<< c.toNat).toNat = 2 ^ c.toNat := by decide

/-- The word recorded for an XP frame: the destination over the level and KIND 2 (R165). -/
theorem xpEvent_eq (c : Level) (d : PublicId) :
    xpEvent c d = BitVec.ofNat 32 (d.toNat * 2048 + c.toNat * 256 + 2) := by
  apply BitVec.eq_of_toNat_eq
  have hkind : EventKind.xp.code.toNat = 2 := rfl
  have hlevel := c.isLt
  have hdest := d.isLt
  simp only [xpEvent, packEvent_toNat, setWidth_publicId_toNat, BitVec.toNat_ofNat, hkind]
  omega

section XpFields

variable (s : State)

/-- The level mask of the frame in RX, as a number (R163). -/
theorem xpMask_toNat : (xpMask s.rx).toNat = rxField s 16 := be16_toNat _ _

/-- The public destination of the frame in RX (R163, R165). -/
theorem xpDest_toNat : (publicOfWire (xpWireDest s.rx)).toNat = rxField s 12 + 1 := by
  rw [publicOfWire_toNat, xpWireDest, be16_toNat]
  rfl

/-- The public source of the frame in RX (R163, R165). -/
theorem xpSource_toNat : (publicOfWire (xpWireSource s.rx)).toNat = rxField s 14 + 1 := by
  rw [publicOfWire_toNat, xpWireSource, be16_toNat]
  rfl

/-- A mask that is 2 to a level of the build is taken as that level (R164). -/
theorem levelOfMask_xpMask {c : Level} (hmask : rxField s 16 = 2 ^ c.toNat) (hc : c.toNat < s.build.numLevels) :
    levelOfMask s.build.numLevels (xpMask s.rx) = some c := by
  have heq : xpMask s.rx = 1#16 <<< c.toNat := by
    apply BitVec.eq_of_toNat_eq
    rw [xpMask_toNat, hmask, levelMask_toNat]
  rw [heq, levelOfMask_of_lt hc]

/-- A mask that is 2 to no level of the build is no level (R164). -/
theorem levelOfMask_xpMask_none (h : ∀ c : Level, c.toNat < s.build.numLevels → rxField s 16 ≠ 2 ^ c.toNat) :
    levelOfMask s.build.numLevels (xpMask s.rx) = none := by
  rw [Option.eq_none_iff_forall_ne_some]
  intro c hc
  obtain ⟨hlt, hmask⟩ := levelOfMask_some hc
  exact h c hlt (by rw [← xpMask_toNat, hmask, levelMask_toNat])

end XpFields

/-- Settles O50: the mask is the level, the ids are in range, so the frame writes its one cell and records it. -/
theorem xpFrameWritesOneCell : Obligations.XpFrameWritesOneCell := by
  intro s c hwf htagged hlen hbyte hcrc hmask hc hdest hsource
  have hd := xpDest_toNat s
  have hx := xpSource_toNat s
  have hx' : publicOfWire (xpWireSource s.rx) = BitVec.ofNat 17 (rxField s 14 + 1) := by rw [← hx, BitVec.ofNat_toNat]; rfl
  have hdlt : rxField s 12 + 1 < 131072 := hd ▸ (publicOfWire (xpWireDest s.rx)).isLt
  have happly := applyXp_inRange (s := (s.withRx []).withRxOvf false) (levelOfMask_xpMask s hmask hc) (hd ▸ hdest)
    (hx ▸ hsource)
  rw [xpEvent_eq, hd, hx'] at happly
  rw [exec_rxCommit_xp htagged hlen hbyte hcrc, happly]
  refine ⟨_, rfl, rfl, fun c' d' hd' => ?_⟩
  exact setCell_cell (s := (s.withRx []).withRxOvf false) hwf c c' _ d' _ hdlt hd'

/-- Settles O51: a mask of no level is the drop BAD_MASK; an id out of range is the drop BOUNDS with its sticky bit. -/
theorem xpFrameRejections : Obligations.XpFrameRejections := by
  intro s htagged hlen hbyte hcrc
  rw [exec_rxCommit_xp htagged hlen hbyte hcrc]
  constructor
  · intro hmask
    have hnone : levelOfMask ((s.withRx []).withRxOvf false).build.numLevels (xpMask s.rx) = none :=
      levelOfMask_xpMask_none s hmask
    rw [applyXp, hnone]
    rfl
  · intro c hc hmask hout
    have hlevel : levelOfMask ((s.withRx []).withRxOvf false).build.numLevels (xpMask s.rx) = some c :=
      levelOfMask_xpMask s hmask hc
    rw [← xpDest_toNat, ← xpSource_toNat] at hout
    have happly : applyXp ((s.withRx []).withRxOvf false) s.rx =
        raiseDrop (setSticky ((s.withRx []).withRxOvf false) .errBounds) .bounds := by
      rw [applyXp, hlevel]
      exact if_pos hout
    rw [happly]
    rfl

/-! Dump frames. -/

/-- A valid dump is applied, on the state with RX emptied; it never has 20 bytes (R151, R160, R168). -/
theorem exec_rxCommit_dump {s : State} (htagged : taggedFrame s) (hlen : 18 ≤ s.rx.length)
    (hmod : (s.rx.length - 18) % 3 = 0) (hbyte : lengthByteAccepted s) (hcrc : checksumAccepted s) :
    exec .rxCommit s = .next ((applyDump (emptyRx s) s.rx).withReply .writeOk) := by
  rw [exec_rxCommit, commitVerdict_passed htagged (.inr ⟨hlen, hmod⟩) hbyte hcrc, shapeOfLength, if_neg (by omega)]
  rfl

/-- Settles O53: the entries replace the matrix and at most ERR_BOUNDS, and each is for a cell of DUMP_LEVEL. -/
theorem dumpWritesOnlyTheDumpLevel : Obligations.DumpWritesOnlyTheDumpLevel := by
  intro s hb hwf htagged hlen hmod hbyte hcrc
  obtain ⟨m, st, hentries, hst⟩ := applyEntries_eq (emptyRx s) (dumpEntries s.build.dumpDecoder s.rx)
  rw [exec_rxCommit_dump htagged hlen hmod hbyte hcrc, applyDump_eq hentries, readyEvent_eq]
  refine ⟨_, rfl, rfl, rfl, ?_, fun c d hd hc => ?_⟩
  · obtain rfl | rfl := hst <;> rfl
  · have hcell := applyEntries_cell_eq (s := emptyRx s) (es := dumpEntries s.build.dumpDecoder s.rx) hb hwf hd
      fun _ _ ⟨h, _⟩ => hc h
    rw [hentries] at hcell
    exact hcell

/-- ERR_BOUNDS after the entries of a dump: as before, or set by an entry out of range (R167). -/
theorem applyEntries_errBounds (s : State) (es : List (Nat × PublicId)) :
    (applyEntries s es).sticky.errBounds = true ↔
      s.sticky.errBounds = true ∨ ∃ e ∈ es, ¬entryInRange s.build e := by
  induction es generalizing s with
  | nil => simp [applyEntries]
  | cons e es ih =>
    have htail := ih (applyEntry s e)
    rw [applyEntry_build] at htail
    simp only [List.mem_cons, exists_eq_or_imp]
    rw [← or_assoc]
    refine htail.trans (or_congr_left ?_)
    obtain ⟨h1, h2, h3, h⟩ | ⟨hout, h⟩ := applyEntry_cases s e <;> rw [h]
    · simp [entryInRange, h1, h2, h3]
    · simp [hout, Sticky.set]

section StandardDump

variable {s : State} (f : List Byte)

/-- Entry k of R166's default is for destination k + 1. -/
theorem dumpEntry_standard_dest (k : Nat) : (dumpEntry .standard f k).1 = k + 1 := rfl

/-- The cells after the first n entries of a default dump: for each destination d up to n, the source of entry d - 1 when both
are in range (R166, R167). -/
theorem standardEntries_cell (hb : s.build.wf) (hwf : RoutingMatrix.wf s.matrix) (n : Nat) (c : Level) {d : Nat}
    (hd : d < 131072) :
    (applyEntries s ((List.range n).map (dumpEntry .standard f))).cell c d =
      if c = s.build.dumpLevel ∧ 1 ≤ d ∧ d ≤ n ∧ d ≤ s.build.numOutputs ∧
          (dumpEntry .standard f (d - 1)).2.toNat ≤ s.build.numInputs then
        (dumpEntry .standard f (d - 1)).2
      else s.cell c d := by
  induction n with
  | zero => exact (if_neg (by omega)).symm
  | succ n ih =>
    have hsplit : applyEntries s ((List.range (n + 1)).map (dumpEntry .standard f)) =
        applyEntry (applyEntries s ((List.range n).map (dumpEntry .standard f))) (dumpEntry .standard f n) := by
      rw [List.range_succ, List.map_append]
      exact List.foldl_append
    have hbuild := applyEntries_build s ((List.range n).map (dumpEntry .standard f))
    rw [hsplit, applyEntry_cell (hbuild ▸ hb) (applyEntries_wf hwf _) _ c hd, hbuild, ih]
    simp only [entryInRange, dumpEntry_standard_dest]
    by_cases hlast : d = n + 1
    · subst hlast
      simp
    · have hle : d ≤ n + 1 ↔ d ≤ n := by omega
      simp [hlast, hle]

end StandardDump

/-- The source of entry k of a default dump in RX, as a number (R166). -/
theorem dumpEntry_standard_source (s : State) (k : Nat) : (dumpEntry .standard s.rx k).2.toNat = dumpSource s k := by
  have hsource : (dumpEntry .standard s.rx k).2 =
    publicOfWire (be16 (byteAt s.rx (17 + 3 * k)) (byteAt s.rx (18 + 3 * k))) := rfl
  have hnext : 18 + 3 * k = 17 + 3 * k + 1 := by omega
  rw [hsource, publicOfWire_toNat, be16_toNat, hnext]
  rfl

/-- Settles O52: the entries of the default decoder fill their row in place, and one of them out of range sets ERR_BOUNDS. -/
theorem dumpFrameWritesItsRowInPlace : Obligations.DumpFrameWritesItsRowInPlace := by
  intro s hb hdec hwf htagged hlen hmod hbyte hcrc
  obtain ⟨m, st, hentries, hst⟩ := applyEntries_eq (emptyRx s) (dumpEntries s.build.dumpDecoder s.rx)
  rw [exec_rxCommit_dump htagged hlen hmod hbyte hcrc, applyDump_eq hentries, readyEvent_eq]
  have hbounds := applyEntries_errBounds (emptyRx s) (dumpEntries s.build.dumpDecoder s.rx)
  have hcells := fun c d hd => standardEntries_cell (s := emptyRx s) s.rx hb hwf (dumpCount s.rx) c (d := d) hd
  rw [hentries, hdec] at hbounds
  rw [hdec] at hentries
  refine ⟨_, rfl, ?frame, hbounds.trans ?bounds, fun c d hd => ?cell⟩
  case frame => obtain rfl | rfl := hst <;> rfl
  case bounds =>
    simp only [dumpEntries, List.mem_map, List.mem_range, exists_exists_and_eq_and, entryInRange,
      dumpEntry_standard_dest, dumpEntry_standard_source]
    refine or_congr_right (exists_congr fun k => and_congr_right fun _ => ?_)
    show ¬(1 ≤ k + 1 ∧ k + 1 ≤ s.build.numOutputs ∧ dumpSource s k ≤ s.build.numInputs) ↔ _
    omega
  case cell =>
    have hcell := hcells c d hd
    have hsource : (dumpEntry .standard s.rx (d - 1)).2 = BitVec.ofNat 17 (dumpSource s (d - 1)) := by
      rw [← dumpEntry_standard_source, BitVec.ofNat_toNat, BitVec.setWidth_eq]
    rw [dumpEntry_standard_source, hsource] at hcell
    exact (congrArg (fun t => t.cell c d) hentries).symm.trans hcell

/-! The bytes that are not interpreted. -/

/-- Two frames of one length that agree on bytes i to j have the same bytes i to j (R13). -/
theorem bytesFromTo_congr {f g : List Byte} {i j : Nat} (hlen : f.length = g.length)
    (h : ∀ k, i ≤ k → k ≤ j → f.getD k 0#8 = g.getD k 0#8) : bytesFromTo f i j = bytesFromTo g i j := by
  apply List.ext_getElem (by simp [bytesFromTo, hlen])
  intro n hn hn'
  simp only [bytesFromTo, List.length_take, List.length_drop] at hn hn'
  have hbyte := h (i + n) (by omega) (by omega)
  rw [List.getD_eq_getElem _ _ (by omega), List.getD_eq_getElem _ _ (by omega)] at hbyte
  simpa [bytesFromTo] using hbyte

/-- With both checks off the optional checks see nothing of the frame (R161, R162). -/
theorem optionalChecks_off {ctrl : Word} (hcrc : crcCheckEn ctrl = false) (hlen : lenCheckEn ctrl = false) (f : List Byte)
    (shape : FrameVerdict) : optionalChecks ctrl f shape = shape := by
  simp [optionalChecks, hcrc, hlen]

/-- With both checks off, the verdict on a frame that is no banner is by its length and its bytes 7 to 9 (R151). -/
theorem frameVerdict_congr {tag : List Byte} {ctrl : Word} {hsDone rxOvf : Bool} {f g : List Byte}
    (hcrc : crcCheckEn ctrl = false) (hlenCheck : lenCheckEn ctrl = false) (hlen : f.length = g.length)
    (hf : ¬startsWithWelcome f) (hg : ¬startsWithWelcome g) (htag : bytesFromTo f 7 9 = bytesFromTo g 7 9) :
    frameVerdict tag ctrl hsDone rxOvf f = frameVerdict tag ctrl hsDone rxOvf g := by
  have hf' : isBanner f = false := by rw [← Bool.not_eq_true, isBanner_iff]; exact hf
  have hg' : isBanner g = false := by rw [← Bool.not_eq_true, isBanner_iff]; exact hg
  simp only [frameVerdict, optionalChecks_off hcrc hlenCheck, hf', hg', hlen, htag]

/-- An XP frame is applied by its bytes 12 to 17 (R163). -/
theorem applyXp_congr (s : State) {f g : List Byte} (h : ∀ i, 12 ≤ i → i ≤ 17 → byteAt f i = byteAt g i) :
    applyXp s f = applyXp s g := by
  have hdest : xpWireDest f = xpWireDest g := by
    rw [xpWireDest, h 12 (by decide) (by decide), h 13 (by decide) (by decide), xpWireDest]
  have hsource : xpWireSource f = xpWireSource g := by
    rw [xpWireSource, h 14 (by decide) (by decide), h 15 (by decide) (by decide), xpWireSource]
  have hmask : xpMask f = xpMask g := by
    rw [xpMask, h 16 (by decide) (by decide), h 17 (by decide) (by decide), xpMask]
  rw [applyXp, applyXp, hdest, hsource, hmask]

/-- A default dump is applied by its length and bytes 1 and 2 of each entry (R166). -/
theorem applyDump_congr {s : State} (hdec : s.build.dumpDecoder = .standard) {f g : List Byte}
    (hlen : f.length = g.length)
    (h : ∀ k < dumpCount f, byteAt f (17 + 3 * k) = byteAt g (17 + 3 * k) ∧ byteAt f (18 + 3 * k) = byteAt g (18 + 3 * k)) :
    applyDump s f = applyDump s g := by
  have hcount : dumpCount f = dumpCount g := by rw [dumpCount, dumpCount, hlen]
  have hentries : dumpEntries .standard f = dumpEntries .standard g := by
    rw [dumpEntries, dumpEntries, ← hcount]
    refine List.map_congr_left fun k hk => ?_
    obtain ⟨hhigh, hlow⟩ := h k (List.mem_range.mp hk)
    simp only [dumpEntry, dumpEntryDecode, hhigh, hlow]
  rw [applyDump, applyDump, hdec, hentries, hcount]

/-- Settles O56: the two frames get one verdict, and its effect is by the bytes on which they agree. -/
theorem uninterpretedBytesDoNotMatter : Obligations.UninterpretedBytesDoNotMatter := by
  intro s f g hcrc hlenCheck hdec hlen hf hg htag hxp hdump
  have hverdict : frameVerdict s.build.tag s.ctrl s.hsDone s.rxOvf f = frameVerdict s.build.tag s.ctrl s.hsDone s.rxOvf g :=
    frameVerdict_congr hcrc hlenCheck hlen hf hg (bytesFromTo_congr hlen htag)
  have heffect : applyVerdict (emptyRx s) f (frameVerdict s.build.tag s.ctrl s.hsDone s.rxOvf f) =
      applyVerdict (emptyRx s) g (frameVerdict s.build.tag s.ctrl s.hsDone s.rxOvf g) := by
    rw [← hverdict]
    obtain ⟨r, h⟩ | ⟨-, -, h⟩ | ⟨-, h20, h⟩ | ⟨-, -, hmod, h⟩ :=
      frameVerdict_cases s.build.tag s.ctrl s.hsDone s.rxOvf f <;> rw [h]
    · rfl
    · rfl
    · exact applyXp_congr _ (hxp h20)
    · exact applyDump_congr (s := emptyRx s) hdec hlen (hdump (by omega))
  exact ⟨_, rfl, congrArg (fun u => Host.Outcome.next (writeAccepted u)) heffect.symm⟩

end Sys2Proof.Machine

/-! SUPPORT. Runs of the host lines (30_encoding.md R113, R114): each register access of a line is one step, which runs the
instruction of that access. -/

namespace Sys2Proof.Machine

/-! Runs, one host step after the other. -/

/-- With no host step left a run ends where it is (R381). -/
theorem runHost_nil (s : State) : runHost [] s = .next (s.withPending []) := rfl

/-- A run of a machine goes on from the state that its first step leaves. -/
theorem coreRun_succ (M : Host.Core) {s t : M.State} (h : M.step s = .next t) (k : Nat) :
    M.run (k + 1) s = M.run k t := by
  rw [Host.Core.run, h]

/-- A run serves its first host step, then the others (R90, R381). -/
theorem runHost_cons {h : HostStep} {hs : List HostStep} {s t : State}
    (hstep : step (s.withPending (h :: hs)) = .next (t.withPending hs)) : runHost (h :: hs) s = runHost hs t :=
  coreRun_succ core hstep hs.length

/-- A run of one host step is that step (R381). -/
theorem runHost_singleton (h : HostStep) (s : State) : runHost [h] s = step (s.withPending [h]) := by
  obtain ⟨t, ht⟩ := stepNeverStops (s.withPending [h])
  exact (coreRun_succ core ht 0).trans ht.symm

/-- The step that serves the read of a register runs the instruction of that read (R290). -/
theorem step_readReg (r : Reg) (hs : List HostStep) (s : State) :
    step (s.withPending (readReg r :: hs)) = exec (decodeRead r) (s.withPending hs) :=
  (step_memRead rfl).trans (serveAccess_aligned r.offset_aligned (decode_readReg r) _)

/-- The step that serves the write of a register runs the instruction of that write (R290). -/
theorem step_writeReg (r : Reg) (v : Word) (hs : List HostStep) (s : State) :
    step (s.withPending (writeReg r v :: hs)) = exec (decodeWrite r v) (s.withPending hs) :=
  (step_memWrite rfl).trans (serveAccess_aligned r.offset_aligned (decode_writeReg r v) _)

/-- A run whose first host step reads a register. -/
theorem runHost_readReg {r : Reg} {hs : List HostStep} {s t : State}
    (h : exec (decodeRead r) (s.withPending hs) = .next (t.withPending hs)) : runHost (readReg r :: hs) s = runHost hs t :=
  runHost_cons ((step_readReg r hs s).trans h)

/-- A run whose first host step writes a register. -/
theorem runHost_writeReg {r : Reg} {v : Word} {hs : List HostStep} {s t : State}
    (h : exec (decodeWrite r v) (s.withPending hs) = .next (t.withPending hs)) :
    runHost (writeReg r v :: hs) s = runHost hs t :=
  runHost_cons ((step_writeReg r v hs s).trans h)

/-! `mxget c, d`. -/

/-- Settles O59: the two operand writes, MX_GET in range, and the read of RESULT, step by step. -/
theorem mxGetLineReadsTheCell : Obligations.MxGetLineReadsTheCell := by
  intro s c d hlevel hdest hdest'
  rw [← levelOf_eq, ← idOf_eq] at *
  have hindex := (indexInRange_iff s.build (levelOf c) (idOf d).toNat).mpr ⟨hlevel, hdest, hdest'⟩
  have hget (hs : List HostStep) :
      exec .mxGet ((((s.withArgLevel (levelOf c)).withArgDest (idOf d)).withReply .writeOk).withPending hs) =
        .next (((((s.withArgLevel (levelOf c)).withArgDest (idOf d)).withResult
          (s.cell (levelOf c) (idOf d).toNat)).withReply .writeOk).withPending hs) := by
    rw [exec_mxGet, mxGetEffect_inRange hindex]
    rfl
  calc runHost (expandLine (.mxget c d)) s
    _ = runHost [writeReg .argDest d, issue .mxGet, readReg .result] ((s.withArgLevel (levelOf c)).withReply .writeOk) :=
      runHost_writeReg rfl
    _ = runHost [issue .mxGet, readReg .result]
          (((s.withArgLevel (levelOf c)).withArgDest (idOf d)).withReply .writeOk) := runHost_writeReg rfl
    _ = runHost [readReg .result] ((((s.withArgLevel (levelOf c)).withArgDest (idOf d)).withResult
          (s.cell (levelOf c) (idOf d).toNat)).withReply .writeOk) := runHost_writeReg (hget _)
    _ = runHost [] ((((s.withArgLevel (levelOf c)).withArgDest (idOf d)).withResult
          (s.cell (levelOf c) (idOf d).toNat)).withReply
            (.readOk ((s.cell (levelOf c) (idOf d).toNat).setWidth 32))) := runHost_readReg rfl
  rw [runHost_nil, BitVec.ofNat_toNat]
  rfl

/-! `pop n`. -/

/-- A run whose first host step reads TX_DATA, with a byte in TX (R114, R297). -/
theorem runHost_readTxData {s : State} {b : Byte} {rest : List Byte} (h : s.tx = b :: rest) (hs : List HostStep) :
    runHost (readReg .txData :: hs) s = runHost hs ((s.withTx rest).withReply (.readOk (b.setWidth 32))) :=
  runHost_readReg (exec_rdTxData_cons (s := s.withPending hs) h)

/-- Reading TX_DATA n + 1 times, with that many bytes in TX, answers byte n to the last read and takes them all off (R114,
R297). -/
theorem runHost_pop (n : Nat) {s : State} (h : n + 1 ≤ s.tx.length) :
    runHost (List.replicate (n + 1) (readReg .txData)) s =
      .next (((s.withTx (s.tx.drop (n + 1))).withReply (.readOk ((s.tx.getD n 0#8).setWidth 32))).withPending []) := by
  induction n generalizing s with
  | zero =>
    obtain ⟨b, rest, htx⟩ := List.exists_cons_of_length_pos h
    rw [List.replicate_succ, runHost_readTxData htx, htx]
    rfl
  | succ n ih =>
    obtain ⟨b, rest, htx⟩ := List.exists_cons_of_length_pos (Nat.lt_of_lt_of_le (Nat.succ_pos _) h)
    have hlen : n + 1 ≤ rest.length := by simpa [htx] using h
    rw [List.replicate_succ, runHost_readTxData htx, ih hlen, htx]
    rfl

/-- Settles O60: n is one more than some number of reads before the last. -/
theorem popLineDrainsTx : Obligations.PopLineDrainsTx := by
  intro s n hn hlen
  obtain ⟨n, rfl⟩ : ∃ m, n = m + 1 := ⟨n - 1, by omega⟩
  rw [BitVec.ofNat_toNat]
  exact runHost_pop n hlen

/-! `frame bs`. -/

/-- An entry of a dump is judged by its own values and the build, whatever the bus answered (R167). -/
theorem applyEntry_withReply (s : State) (r : Reply) (e : Nat × PublicId) :
    applyEntry (s.withReply r) e = (applyEntry s e).withReply r := by
  unfold applyEntry
  rw [apply_ite (State.withReply · r)]
  rfl

/-- No verdict on a frame looks at what the bus answered before. -/
theorem applyVerdict_withReply (s : State) (r : Reply) (f : List Byte) (verdict : FrameVerdict) :
    applyVerdict (s.withReply r) f verdict = (applyVerdict s f verdict).withReply r := by
  cases verdict with
  | drop d => rfl
  | banner =>
    show handshake (s.withReply r) = (handshake s).withReply r
    unfold handshake
    rw [apply_ite (State.withReply · r)]
    rfl
  | xp =>
    show applyXp (s.withReply r) f = (applyXp s f).withReply r
    unfold applyXp applyCrosspoint
    rw [withReply_build]
    split
    · rfl
    · rw [apply_ite (State.withReply · r)]
      rfl
  | dump =>
    have hentries : applyEntries (s.withReply r) (dumpEntries s.build.dumpDecoder f) =
        (applyEntries s (dumpEntries s.build.dumpDecoder f)).withReply r :=
      List.foldl_hom (State.withReply · r) fun t e => applyEntry_withReply t r e
    show applyDump (s.withReply r) f = (applyDump s f).withReply r
    rw [applyDump, withReply_build, hentries]
    rfl

/-- A commit does not look at what the bus answered before, and answers an accepted write (R150). -/
theorem exec_rxCommit_withReply (s : State) (r : Reply) : exec .rxCommit (s.withReply r) = exec .rxCommit s := by
  have heffect : commitEffect (s.withReply r) = (commitEffect s).withReply r :=
    applyVerdict_withReply (emptyRx s) r s.rx (commitVerdict s)
  calc exec .rxCommit (s.withReply r)
    _ = .next (writeAccepted ((commitEffect s).withReply r)) :=
      congrArg (fun u => Host.Outcome.next (writeAccepted u)) heffect
    _ = exec .rxCommit s := rfl

/-- The byte ports take back the byte that a host line writes (R114, R296). -/
theorem byteOf_setWidth (b : Byte) : byteOf (b.setWidth 32) = b := by
  simp [byteOf]

/-- A byte pushed by a host line, with room in RX (R114, R296). -/
theorem exec_wrRxData_byte {s : State} (b : Byte) (h : s.rx.length < s.build.rxMax) :
    exec (.wrRxData (b.setWidth 32)) s = .next ((s.withRx (s.rx ++ [b])).withReply .writeOk) := by
  rw [exec_wrRxData, byteOf_setWidth, pushRx, if_pos h]

/-- Pushing bytes that fit and committing is committing RX with the bytes appended (R88, R114). -/
theorem runHost_frame (bs : List Byte) {s : State} (h : s.rx.length + bs.length ≤ s.build.rxMax) :
    runHost (pushBytes bs ++ [issue .rxCommit]) s = exec .rxCommit ((s.withRx (s.rx ++ bs)).withPending []) := by
  induction bs generalizing s with
  | nil =>
    rw [List.append_nil]
    exact (runHost_singleton _ s).trans (step_writeReg .cmd _ [] s)
  | cons b bs ih =>
    rw [List.length_cons] at h
    calc runHost (pushBytes (b :: bs) ++ [issue .rxCommit]) s
      _ = runHost (pushBytes bs ++ [issue .rxCommit]) ((s.withRx (s.rx ++ [b])).withReply .writeOk) :=
        runHost_writeReg (exec_wrRxData_byte (s := s.withPending _) b (show s.rx.length < s.build.rxMax by omega))
      _ = exec .rxCommit ((((s.withRx (s.rx ++ [b] ++ bs)).withReply .writeOk)).withPending []) := ih (by simp; omega)
      _ = exec .rxCommit (((s.withRx (s.rx ++ b :: bs)).withPending []).withReply .writeOk) := by
        rw [List.append_assoc]
        rfl
      _ = exec .rxCommit ((s.withRx (s.rx ++ b :: bs)).withPending []) := exec_rxCommit_withReply _ _

/-- Settles O58: RX is empty, so the bytes are the whole frame. -/
theorem frameLinePushesThenCommits : Obligations.FrameLinePushesThenCommits := by
  intro s bs hrx hlen
  have hrun := runHost_frame bs (s := s) (by rw [hrx, List.length_nil]; omega)
  rw [hrx, List.nil_append] at hrun
  exact hrun

end Sys2Proof.Machine
